-- ==== Sys2Proof/Word.lean ====
section
/-! DEFINITION. The words and the numbers of the SX64: bytes of the two ports, frame numbers and serials that
wrap at 65536, and the names of terminals, engines and poll tags. -/

namespace Sys2Proof

/-- One byte of a port's line. -/
abbrev Byte := BitVec 8

/-- A frame number, compared and advanced modulo 65536 (R148, 00 §5.2). -/
abbrev FrameNo := BitVec 16

/-- A grant serial, counted modulo 65536 (R79). -/
abbrev Serial := BitVec 16

/-- A terminal of the table (R1), by its place: terminal number `n` of 1..64 is the place `n - 1`. -/
abbrev TermId := Fin 64

/-- A re-entry engine RE0..RE3 (00 §5.3). -/
abbrev EngineId := Fin 4

/-- A poll tag 0..7, the place of an in-flight entry (R116). -/
abbrev PollTag := Fin 8

/-- The content of one frame of either port between its length byte and its CRC (11 §11.1). -/
structure WireFrame where
  kind : Byte
  tag : Byte
  body : List Byte
deriving DecidableEq, Repr

end Sys2Proof
end

