-- ==== Sys2Proof/Syntax.lean ====
section
/-! DEFINITION. The commands of the SX64: one constructor per row of spec/opcode_table.json, with the row's operands.
A control-port request carries its frame's TAG and body bytes, a modem message its fields as they are received, before
any clamp (R173). -/

namespace Sys2Proof

/-- A command: one whole, indivisible event of the part (95, R146, R158). -/
inductive Instr where
  /-- POWER_ON (R170). -/
  | powerOn
  /-- CP_LENGTH_DISCARD (R157): the byte the control-port receiver takes. -/
  | cpLengthDiscard (b : Byte)
  /-- CP_GAP_DISCARD (R157). -/
  | cpGapDiscard
  /-- FRAME_DISCARDED_BUFFER_OCCUPIED (R156): the frame that completes, with its CRC verdict. -/
  | frameDiscardedBufferOccupied (kind tag : Byte) (body : List Byte) (crcGood : Bool)
  /-- BAD_FRAME (R157): the frame that completes, as received, its CRC bad. -/
  | badFrame (kind tag : Byte) (body : List Byte)
  /-- BAD_KIND (R159): the frame that completes, its KIND no request kind. -/
  | badKind (kind tag : Byte) (body : List Byte)
  /-- STATUS (R160). -/
  | status (tag : Byte) (body : List Byte)
  /-- SET_SECTOR (R162). -/
  | setSector (tag : Byte) (body : List Byte)
  /-- READ_SECTOR (R163). -/
  | readSector (tag : Byte) (body : List Byte)
  /-- SET_LADDER (R46). -/
  | setLadder (tag : Byte) (body : List Byte)
  /-- PROVISION (R10). -/
  | provision (tag : Byte) (body : List Byte)
  /-- AMEND (R13). -/
  | amend (tag : Byte) (body : List Byte)
  /-- RETIRE (R16). -/
  | retire (tag : Byte) (body : List Byte)
  /-- BAR (R17). -/
  | bar (tag : Byte) (body : List Byte)
  /-- UNBAR (R19). -/
  | unbar (tag : Byte) (body : List Byte)
  /-- RESTORE_NOW (R20). -/
  | restoreNow (tag : Byte) (body : List Byte)
  /-- READ_TERMINAL (R9). -/
  | readTerminal (tag : Byte) (body : List Byte)
  /-- HOLD (R90). -/
  | hold (tag : Byte) (body : List Byte)
  /-- RELEASE (R91). -/
  | release (tag : Byte) (body : List Byte)
  /-- READ_CHANGES (R166). -/
  | readChanges (tag : Byte) (body : List Byte)
  /-- READ_QUEUE (R168). -/
  | readQueue (tag : Byte) (body : List Byte)
  /-- RESTART (R169). -/
  | restart (tag : Byte) (body : List Byte)
  /-- REPLY_SENT (R158). -/
  | replySent
  /-- RESTART_RESET (R169). -/
  | restartReset
  /-- ML_LENGTH_DISCARD (R145): the byte the modem-link receiver takes. -/
  | mlLengthDiscard (b : Byte)
  /-- ML_GAP_DISCARD (R145). -/
  | mlGapDiscard
  /-- ML_CRC_DISCARD (R145). -/
  | mlCrcDiscard
  /-- ML_FRAME_DROPPED (R146): the frame that completes with a good CRC. -/
  | mlFrameDropped (kind tag : Byte) (body : List Byte)
  /-- FRAME (R148): the frame number and the offered slots. -/
  | frame (n : FrameNo) (slots : Byte)
  /-- BURST (R151): terminal, frame of the burst, level (two's complement), pilot errors. -/
  | burst (terminal : Byte) (b : FrameNo) (level : BitVec 16) (errors : Byte)
  /-- MISS (R151): terminal, frame of the expected burst. -/
  | miss (terminal : Byte) (b : FrameNo)
  /-- POLL_RESULT (R122): poll tag, outcome, level (two's complement), pilot errors. -/
  | pollResult (tag outcome : Byte) (level : BitVec 16) (errors : Byte)
  /-- MODEM_SILENT (R150). -/
  | modemSilent
  /-- COMMAND_EFFECTIVE (R57) of one terminal. -/
  | commandEffective (t : TermId)
  /-- AMBIGUITY_WINDOW_CLOSE (R57) of one terminal. -/
  | ambiguityWindowClose (t : TermId)
  /-- BACKOFF_EXPIRY (R103) of one terminal. -/
  | backoffExpiry (t : TermId)
  /-- RAMP_TICK (R107) of one engine. -/
  | rampTick (e : EngineId)
  /-- POLL_TIMEOUT (R118) of one tag. -/
  | pollTimeout (k : PollTag)
  /-- LOSS_WINDOW_EXPIRY (R137). -/
  | lossWindowExpiry
  /-- OUTBOUND_MESSAGE_SENT (R153). -/
  | outboundMessageSent
  /-- ML_SYNC_FOUND (R144): the bytes the modem-link receiver takes, in line order. -/
  | mlSyncFound (bytes : List Byte)
  /-- CP_SYNC_FOUND (R156): the bytes the control-port receiver takes, in line order. -/
  | cpSyncFound (bytes : List Byte)
deriving DecidableEq, Repr

end Sys2Proof
end

