-- ==== Sys2Proof/Config.lean ====
section
/-! DEFINITION. The free values: what the manual leaves open and the machine nevertheless does. Each is a constant
with no body, so nothing proved of the model can rest on it. -/

namespace Sys2Proof.Config

/-- DESIGN CHOICE (log entry 7). R103 does not say in which order several backoffs that expire on one frame mark join
the queue. `expiryRank k t` ranks terminal place `t` on the mark with free index `k`: a smaller rank joins earlier. -/
opaque expiryRank : Nat → Nat → Nat

/-- DESIGN CHOICE (log entry 8). R149 imposes no order among the blocks' work on one frame mark, and R118 none among the
entries that time out on it. `sendRank k t` ranks the message for terminal place `t` on the mark with free index `k`: a
smaller rank leaves earlier. The POWERs of the ramp ticks keep the order of their engines whatever their ranks. -/
opaque sendRank : Nat → Nat → Nat

end Sys2Proof.Config
end

