-- ==== Sys2Proof/Machine/Formats.lean ====
section
/-! DEFINITION. The frame of both ports and the encoding of fields inside a body (11_message_formats.md): CRC-16,
byte order, KIND values and body lengths. -/

namespace Sys2Proof.Machine

/-! ### Fields (R173) -/

/-- A small unsigned number as one byte. -/
def byteOf (n : Nat) : Byte := BitVec.ofNat 8 n

/-- Two bytes, high byte first. -/
def bytesOf (w : BitVec 16) : List Byte := [w.extractLsb' 8 8, w.extractLsb' 0 8]

/-- A two-byte unsigned number, high byte first. -/
def bytesOfNat (n : Nat) : List Byte := bytesOf (BitVec.ofNat 16 n)

/-- A two-byte signed number, two's complement, high byte first. -/
def bytesOfInt (z : Int) : List Byte := bytesOf (BitVec.ofInt 16 z)

/-- A flag as a byte: 0x01 for set, yes or on; 0x00 for clear, no or off. -/
def flagByte (b : Bool) : Byte := if b then 0x01 else 0x00

/-- The byte at a body offset. -/
def byteAt (body : List Byte) (i : Nat) : Byte := body.getD i 0

/-- The one-byte unsigned number at a body offset. -/
def numAt (body : List Byte) (i : Nat) : Nat := (byteAt body i).toNat

/-- The two bytes at a body offset as one word, high byte first. -/
def wordAt (body : List Byte) (i : Nat) : BitVec 16 := byteAt body i ++ byteAt body (i + 1)

/-- The two-byte unsigned number at a body offset. -/
def num16At (body : List Byte) (i : Nat) : Nat := (wordAt body i).toNat

/-- The two-byte signed number at a body offset. -/
def int16At (body : List Byte) (i : Nat) : Int := (wordAt body i).toInt

/-! ### Clamps (00 §5.4) -/

/-- A clamp of a natural number to `lo..hi`. -/
def clampNat (lo hi x : Nat) : Nat := if x < lo then lo else if hi < x then hi else x

/-- A clamp of a signed number to `lo..hi`. -/
def clampInt (lo hi x : Int) : Int := if x < lo then lo else if hi < x then hi else x

/-! ### CRC-16 and the frame layout (R172) -/

/-- One shift of the CRC register (R172 step 3). -/
def crcShift (r : BitVec 16) : BitVec 16 := if r.msb then (r <<< 1) ^^^ 0x1021#16 else r <<< 1

/-- One byte into the CRC register: combined into the high eight bits, then eight shifts. -/
def crcByte (r : BitVec 16) (b : Byte) : BitVec 16 :=
  crcShift (crcShift (crcShift (crcShift (crcShift (crcShift (crcShift (crcShift
    (r ^^^ (b ++ 0#8)))))))))

/-- The CRC-16 of bytes in line order, started from 0xFFFF. -/
def crc16 (bytes : List Byte) : BitVec 16 := bytes.foldl crcByte 0xFFFF#16

/-- The SYNC byte (11 §11.1). -/
def syncByte : Byte := 0xA5

/-- A LEN that a receiver takes into BODY (R144): 2..252. -/
def lenValid (b : Byte) : Bool := 2 ≤ b.toNat && b.toNat ≤ 252

/-- The bytes a CRC is computed over: LEN, KIND, TAG and the body. -/
def crcScope (f : WireFrame) : List Byte := byteOf (f.body.length + 2) :: f.kind :: f.tag :: f.body

/-- Every byte of a frame in line order: SYNC, LEN, KIND, TAG, body, CRC high byte, CRC low byte. -/
def frameBytes (f : WireFrame) : List Byte := syncByte :: crcScope f ++ bytesOf (crc16 (crcScope f))

/-! ### KIND values and body lengths (R174) -/

/-- The sixteen control-port requests. -/
inductive ReqKind where
  | status | setSector | readSector | setLadder | provision | amend | retire | readTerminal
  | bar | unbar | restoreNow | hold | release | readChanges | readQueue | restart
deriving DecidableEq, Repr

/-- A request's KIND value. -/
def ReqKind.code : ReqKind → Byte
  | .status => 0x40
  | .setSector => 0x41
  | .readSector => 0x42
  | .setLadder => 0x43
  | .provision => 0x44
  | .amend => 0x45
  | .retire => 0x46
  | .readTerminal => 0x47
  | .bar => 0x48
  | .unbar => 0x49
  | .restoreNow => 0x4A
  | .hold => 0x4B
  | .release => 0x4C
  | .readChanges => 0x4D
  | .readQueue => 0x4E
  | .restart => 0x4F

/-- A request's body length, the one R159 checks for BAD_LENGTH. -/
def ReqKind.bodyLen : ReqKind → Nat
  | .setSector => 25
  | .setLadder => 9
  | .provision => 12
  | .amend => 9
  | .retire | .readTerminal | .bar | .unbar | .restoreNow => 1
  | .status | .readSector | .hold | .release | .readChanges | .readQueue | .restart => 0

/-- Every request kind, in code order. -/
def allReqKinds : List ReqKind :=
  [.status, .setSector, .readSector, .setLadder, .provision, .amend, .retire, .readTerminal,
   .bar, .unbar, .restoreNow, .hold, .release, .readChanges, .readQueue, .restart]

/-- The request kind a KIND byte names, if any (R159 step 2). -/
def reqKindOf (kind : Byte) : Option ReqKind := allReqKinds.find? (fun k => k.code == kind)

/-- The KIND of a reply (R177). -/
def replyKind : Byte := 0x80

/-- KIND values of the inbound modem messages. -/
def frameKind : Byte := 0x10
def burstKind : Byte := 0x11
def missKind : Byte := 0x12
def pollResultKind : Byte := 0x13

/-- KIND values of the outbound modem messages. -/
def pollKind : Byte := 0x20
def powerKind : Byte := 0x21
def profileKind : Byte := 0x22
def withdrawKind : Byte := 0x23
def admissionKind : Byte := 0x24

/-- The body length of an inbound modem kind, the one R146 checks; none for every other kind. -/
def modemBodyLen (kind : Byte) : Option Nat :=
  if kind = frameKind then some 3
  else if kind = burstKind then some 6
  else if kind = missKind then some 3
  else if kind = pollResultKind then some 4
  else none

/-- A completed modem-link frame that R146 hands on: a known inbound kind with its body length. -/
def modemFrameKnown (f : WireFrame) : Bool := modemBodyLen f.kind == some f.body.length

end Sys2Proof.Machine
end

