-- ==== Sys2Proof/Machine/State.lean ====
section
/-! DEFINITION. The state of the SX64 as plain data, its reset, and the reasons a step can stop (there are none the
spec gives). -/

namespace Sys2Proof.Machine

/-- A terminal's state (R1, R6). -/
inductive TermState where
  | unused | serving | queued | active | suspended | backoff | held | barred
deriving DecidableEq, Repr

/-- A loss reason (R1, R67). -/
inductive LossReason where
  | misses | floor | forced
deriving DecidableEq, Repr

/-- A phase of the re-entry procedure (R92). -/
inductive Phase where
  | coarse | fine | confirm | settle | verify
deriving DecidableEq, Repr

/-- The sector mode (R133). -/
inductive Mode where
  | clear | degraded | outage
deriving DecidableEq, Repr

/-- The start cause (R170). -/
inductive StartCause where
  | powerOn | restart
deriving DecidableEq, Repr

/-- The status of a reply (R159). -/
inductive Status where
  | ok | badFrame | badKind | badLength | badTerminal | notProvisioned | alreadyExists | order | wrongState
deriving DecidableEq, Repr

/-- The direction of the last ramp step taken (R92). -/
inductive StepDir where
  | still | up | down
deriving DecidableEq, Repr

/-- A receiver's state (R144). -/
inductive RxPhase where
  | hunt | length | body
deriving DecidableEq, Repr

/-- A port's receiver: its state, the LEN kept, the bytes taken in BODY so far, and the milliseconds since the last byte
of the frame in assembly (R144, R145, R156, R157). -/
structure Receiver where
  phase : RxPhase
  len : Nat
  bytes : List Byte
  gapMs : Nat
deriving DecidableEq, Repr

/-- HUNT with nothing assembled. -/
def Receiver.hunting : Receiver := ⟨.hunt, 0, [], 0⟩

/-- A power command issued and not yet in force (R55). -/
structure PowerCmd where
  value : Nat
  effect : FrameNo
deriving DecidableEq, Repr

/-- A terminal record (R1). -/
structure TermRec where
  state : TermState
  cls : Nat
  refLevel : Int
  su : Nat
  sd : Nat
  pmax : Nat
  startPower : Nat
  depth : Nat
  pc : Nat
  pe : Nat
  pendingCmd : Option PowerCmd
  ambigUntil : Option FrameNo
  fade : Nat
  up : Nat
  down : Nat
  holdOff : Nat
  missCount : Nat
  heard : Bool
  retries : Nat
  backoff : Nat
  lossPower : Option Nat
  foundPower : Option Nat
  lostAt : Option FrameNo
  lossReason : Option LossReason
deriving DecidableEq, Repr

/-- The power-on record: UNUSED, every optional field absent, every number 0 (R1). -/
def TermRec.powerOn : TermRec where
  state := .unused
  cls := 0
  refLevel := 0
  su := 0
  sd := 0
  pmax := 0
  startPower := 0
  depth := 0
  pc := 0
  pe := 0
  pendingCmd := none
  ambigUntil := none
  fade := 0
  up := 0
  down := 0
  holdOff := 0
  missCount := 0
  heard := false
  retries := 0
  backoff := 0
  lossPower := none
  foundPower := none
  lostAt := none
  lossReason := none

/-- A gate accumulator (R28). The count-from frame stands in VERIFY only. -/
structure Gate where
  depth : Nat
  power : Nat
  countFrom : Option FrameNo
  counted : Nat
  responses : Nat
  errorTotal : Nat
  levelSum : Int
deriving DecidableEq, Repr

/-- The four ramp fields of a job in SETTLE (R92). -/
structure Ramp where
  target : Nat
  step : Nat
  dir : StepDir
  tick : Nat
deriving DecidableEq, Repr

/-- An engine's job record (R92), with its gate accumulator (R28), its last sample (R97) and the frame from which the
latest power command of an admitted terminal counts (R28, R111). -/
structure Job where
  term : TermId
  cls : Nat
  serial : Serial
  phase : Phase
  pollPower : Nat
  limitCount : Nat
  confirmLeft : Nat
  pollInFlight : Option PollTag
  admitFrame : Option FrameNo
  ramp : Option Ramp
  settleMiss : Nat
  gate : Option Gate
  lastSample : Option Nat
  cmdFrame : Option FrameNo
deriving DecidableEq, Repr

/-- A context of the suspension stack (R87). -/
structure Context where
  term : TermId
  cls : Nat
  phase : Phase
  pollPower : Nat
  limitCount : Nat
  confirmLeft : Nat
deriving DecidableEq, Repr

/-- The owner of an in-flight poll (R116). -/
inductive PollOwner where
  | engine (e : EngineId) (serial : Serial)
  | sweep
deriving DecidableEq, Repr

/-- An entry of the in-flight poll table (R116); its tag is its place in the table. -/
structure PollEntry where
  term : TermId
  owner : PollOwner
  power : Nat
  countdown : Nat
  stale : Bool
deriving DecidableEq, Repr

/-- An outbound modem-link message (R154, R155). -/
inductive OutMsg where
  | poll (tag : PollTag) (term : TermId) (slot power : Nat)
  | power (term : TermId) (value : Nat) (effect : FrameNo)
  | profile (term : TermId) (up down : Nat)
  | withdraw (term : TermId)
  | admission (term : TermId) (power : Nat) (effect : FrameNo) (up down : Nat)
deriving DecidableEq, Repr

/-- A completed frame in the request buffer, with the verdict of its CRC check (R156). -/
structure ReqFrame where
  frame : WireFrame
  crcGood : Bool
deriving DecidableEq, Repr

/-- A reply produced and being sent (R158, R177). -/
structure Reply where
  tag : Byte
  answered : Byte
  status : Status
  contents : List Byte
deriving DecidableEq, Repr

/-- The sector parameter record (R161). -/
structure SectorParams where
  alpha : Nat
  allowance : Nat
  ratio : Nat
  errLimit : Nat
  missLimit : Nat
  trackStep : Nat
  deadband : Nat
  latency : Nat
  coarseStep : Nat
  fineStep : Nat
  limitPolls : Nat
  confirmCount : Nat
  retryLimit : Nat
  backoffBase : Nat
  slowStep : Nat
  fastStep : Nat
  rampInterval : Nat
  slotsPerFrame : Nat
  sweepOn : Bool
  windowLength : Nat
  quorum : Nat
  holdOffLoad : Nat
deriving DecidableEq, Repr

/-- The defaults of R161. -/
def SectorParams.defaults : SectorParams where
  alpha := 4
  allowance := 8
  ratio := 16
  errLimit := 6
  missLimit := 4
  trackStep := 2
  deadband := 2
  latency := 3
  coarseStep := 8
  fineStep := 1
  limitPolls := 3
  confirmCount := 3
  retryLimit := 4
  backoffBase := 200
  slowStep := 1
  fastStep := 6
  rampInterval := 4
  slotsPerFrame := 2
  sweepOn := true
  windowLength := 1000
  quorum := 8
  holdOffLoad := 500

/-- The profile ladder: eight thresholds and the upgrade hysteresis H (R45). -/
structure Ladder where
  thresholds : Vector Nat 8
  hysteresis : Nat
deriving DecidableEq, Repr

/-- The default ladder (R45). -/
def Ladder.defaults : Ladder := ⟨#v[20, 36, 48, 60, 72, 84, 96, 108], 8⟩

/-- Everything the SX64 holds, block by block (00 §3), the commands waiting and the counter of the free values. -/
structure State where
  /-- CP: the control-port receiver (R156). -/
  cpRx : Receiver
  /-- CP: the request buffer (R156). -/
  reqBuf : Option ReqFrame
  /-- CP: the reply being sent (R158). -/
  reply : Option Reply
  /-- CP: the start cause (R170). -/
  startCause : StartCause
  /-- CP: the sector parameter record (R161). -/
  params : SectorParams
  /-- CP: the profile ladder (R45). -/
  ladder : Ladder
  /-- CP: the terminal marks of the change map (R164). -/
  marks : Vector Bool 64
  /-- CP: the sector mark of the change map (R164). -/
  sectorMark : Bool
  /-- ML: the modem-link receiver (R144). -/
  mlRx : Receiver
  /-- ML: the last frame number, the current frame number of R5 (R148). -/
  lastFrame : FrameNo
  /-- ML: the modem-silent flag (R150). -/
  modemSilent : Bool
  /-- ML: the silence detector's time in milliseconds, at most 16 (R150). -/
  silenceMs : Nat
  /-- ML: the outbound messages not yet sent, the one being sent first (R153). -/
  outbox : List OutMsg
  /-- TT: the 64 terminal records (R1). -/
  terms : Vector TermRec 64
  /-- RQA: the restoration queue, head first (R73). -/
  queue : List TermId
  /-- RQA: the suspension stack, top first (R87). -/
  stack : List Context
  /-- RQA: the grant serial counter (R79). -/
  serial : Serial
  /-- RQA: the HOLD flag (R90). -/
  hold : Bool
  /-- RQA: the preempt-pending flag (R89). -/
  preemptPending : Bool
  /-- RE0..RE3: idle or one job each (R92). -/
  engines : Vector (Option Job) 4
  /-- PA: the in-flight poll table (R116). -/
  polls : Vector (Option PollEntry) 8
  /-- SU: the sweep cursor, 0..64 (R126). -/
  cursor : Nat
  /-- SM: the sector mode (R133). -/
  mode : Mode
  /-- SM: the loss window, the remaining lives, oldest first (R136). -/
  lossWindow : List Nat
  /-- The model's own: the commands waiting, first in first out. -/
  pending : List Instr
  /-- The model's own: the index of the next free values (log entry 5). -/
  freeIndex : Nat
deriving DecidableEq, Repr

/-- The part right after power-on (R170, with the values R169 lists), no command waiting. -/
def State.reset : State where
  cpRx := .hunting
  reqBuf := none
  reply := none
  startCause := .powerOn
  params := .defaults
  ladder := .defaults
  marks := Vector.replicate 64 false
  sectorMark := false
  mlRx := .hunting
  lastFrame := 0
  modemSilent := false
  silenceMs := 0
  outbox := []
  terms := Vector.replicate 64 .powerOn
  queue := []
  stack := []
  serial := 0
  hold := false
  preemptPending := false
  engines := Vector.replicate 4 none
  polls := Vector.replicate 8 none
  cursor := 0
  mode := .clear
  lossWindow := []
  pending := []
  freeIndex := 0

/-- Faults: the spec gives the part none, so there is no constructor and no step ends in one. -/
inductive Fault where
deriving DecidableEq, Repr

/-- Refusals. -/
inductive Refusal where
  /-- Raised by exec for a command that has no meaning yet (safe). No arm of exec raises it: every command has one. -/
  | notModelled (mnemonic : String)
deriving DecidableEq, Repr

end Sys2Proof.Machine
end

