-- ==== Sys2Proof/Machine/Operands.lean ====
section
/-! DEFINITION. The operands of the commands: terminal numbers, the fields of requests with their clamps, the codes of
R174, and the bytes of the messages and replies the part sends. -/

namespace Sys2Proof.Machine

/-! ### Terminal numbers (00 §5.3) -/

/-- The number of a terminal place, 1..64. -/
def numberOf (t : TermId) : Nat := t.val + 1

/-- The terminal a number names: none for 0 and above 64. -/
def termOf (n : Nat) : Option TermId := if h : 1 ≤ n ∧ n ≤ 64 then some ⟨n - 1, by omega⟩ else none

/-- All terminals in ascending number. -/
def allTerms : List TermId := List.finRange 64

/-- All engines in ascending number. -/
def allEngines : List EngineId := [0, 1, 2, 3]

/-- All poll tags in ascending order. -/
def allTags : List PollTag := [0, 1, 2, 3, 4, 5, 6, 7]

/-! ### The seven provisioned values (R2) -/

/-- The seven provisioned values of a PROVISION or AMEND request. -/
structure Provisioned where
  cls : Nat
  refLevel : Int
  su : Nat
  sd : Nat
  pmax : Nat
  startPower : Nat
  depth : Nat
deriving DecidableEq, Repr

/-- The seven values as they stand in a PROVISION or AMEND body (R176). -/
def provisionedAt (body : List Byte) : Provisioned where
  cls := numAt body 1
  refLevel := int16At body 2
  su := numAt body 4
  sd := numAt body 5
  pmax := numAt body 6
  startPower := numAt body 7
  depth := numAt body 8

/-- The clamps of R2, in its order: the start power by the Pmax just clamped. -/
def Provisioned.clamped (v : Provisioned) : Provisioned :=
  let pmax := clampNat 0 80 v.pmax
  { cls := clampNat 0 3 v.cls
    refLevel := clampInt (-440) (-120) v.refLevel
    su := clampNat 0 240 v.su
    sd := clampNat 0 240 v.sd
    pmax := pmax
    startPower := clampNat 0 pmax v.startPower
    depth := clampNat 1 8 v.depth }

/-- A record with the seven provisioned values stored (R2). -/
def TermRec.withValues (r : TermRec) (v : Provisioned) : TermRec :=
  { r with cls := v.cls, refLevel := v.refLevel, su := v.su, sd := v.sd, pmax := v.pmax,
           startPower := v.startPower, depth := v.depth }

/-- A PROVISION's enter-as byte: 0x01 is SERVING, every other value RESTORE (R10, R173). -/
def entersServing (body : List Byte) : Bool := byteAt body 11 == 0x01

/-- A PROVISION's profiles, clamped (R10). -/
def upAt (body : List Byte) : Nat := clampNat 0 7 (numAt body 9)
def downAt (body : List Byte) : Nat := clampNat 0 7 (numAt body 10)

/-! ### SET SECTOR and SET LADDER -/

/-- The sector parameters as they stand in a SET SECTOR body (R176); the sweep enable is off for the code 0x00 and on for
every other (R162 step 4). -/
def sectorAt (body : List Byte) : SectorParams where
  alpha := numAt body 0
  allowance := numAt body 1
  ratio := numAt body 2
  errLimit := numAt body 3
  missLimit := numAt body 4
  trackStep := numAt body 5
  deadband := numAt body 6
  latency := numAt body 7
  coarseStep := numAt body 8
  fineStep := numAt body 9
  limitPolls := numAt body 10
  confirmCount := numAt body 11
  retryLimit := numAt body 12
  backoffBase := num16At body 13
  slowStep := numAt body 15
  fastStep := numAt body 16
  rampInterval := numAt body 17
  slotsPerFrame := numAt body 18
  sweepOn := byteAt body 19 != 0x00
  windowLength := num16At body 20
  quorum := numAt body 22
  holdOffLoad := num16At body 23

/-- The clamps of R162 steps 1 to 3: each to its range of R161, then Fs to Cs if above it and Lf to Ls if below it. -/
def SectorParams.clamped (p : SectorParams) : SectorParams :=
  let cs := clampNat 2 16 p.coarseStep
  let ls := clampNat 1 4 p.slowStep
  { alpha := clampNat 1 8 p.alpha
    allowance := clampNat 0 40 p.allowance
    ratio := clampNat 8 32 p.ratio
    errLimit := clampNat 0 63 p.errLimit
    missLimit := clampNat 2 15 p.missLimit
    trackStep := clampNat 1 8 p.trackStep
    deadband := clampNat 0 8 p.deadband
    latency := clampNat 1 8 p.latency
    coarseStep := cs
    fineStep := min (clampNat 1 4 p.fineStep) cs
    limitPolls := clampNat 1 15 p.limitPolls
    confirmCount := clampNat 1 15 p.confirmCount
    retryLimit := clampNat 0 15 p.retryLimit
    backoffBase := clampNat 8 4096 p.backoffBase
    slowStep := ls
    fastStep := max (clampNat 1 16 p.fastStep) ls
    rampInterval := clampNat 1 64 p.rampInterval
    slotsPerFrame := clampNat 1 4 p.slotsPerFrame
    sweepOn := p.sweepOn
    windowLength := clampNat 16 4096 p.windowLength
    quorum := clampNat 2 64 p.quorum
    holdOffLoad := clampNat 0 65535 p.holdOffLoad }

/-- The ladder of a SET LADDER body, each value clamped (R46). -/
def ladderAt (body : List Byte) : Ladder where
  thresholds := #v[clampNat 0 240 (numAt body 0), clampNat 0 240 (numAt body 1), clampNat 0 240 (numAt body 2),
    clampNat 0 240 (numAt body 3), clampNat 0 240 (numAt body 4), clampNat 0 240 (numAt body 5),
    clampNat 0 240 (numAt body 6), clampNat 0 240 (numAt body 7)]
  hysteresis := clampNat 0 40 (numAt body 8)

/-- T[p] of a ladder (R45); profiles run over 0..7. -/
def Ladder.at (l : Ladder) (p : Nat) : Nat := l.thresholds.toList.getD p 0

/-- Each threshold is larger than the one before it (R45, R46). -/
def Ladder.increasing (l : Ladder) : Bool := (List.range 7).all (fun p => l.at p < l.at (p + 1))

/-! ### Codes (R174) -/

def TermState.code : TermState → Nat
  | .unused => 0 | .serving => 1 | .queued => 2 | .active => 3
  | .suspended => 4 | .backoff => 5 | .held => 6 | .barred => 7

def Phase.code : Phase → Nat
  | .coarse => 1 | .fine => 2 | .confirm => 3 | .settle => 4 | .verify => 5

def Mode.code : Mode → Nat
  | .clear => 0 | .degraded => 1 | .outage => 2

/-- The loss reason's code; 0 means absent. -/
def lossReasonCode : Option LossReason → Nat
  | none => 0 | some .misses => 1 | some .floor => 2 | some .forced => 3

def StartCause.code : StartCause → Nat
  | .powerOn => 0 | .restart => 1

def Status.code : Status → Nat
  | .ok => 0 | .badFrame => 1 | .badKind => 2 | .badLength => 3 | .badTerminal => 4
  | .notProvisioned => 5 | .alreadyExists => 6 | .order => 7 | .wrongState => 8

/-! ### Bytes sent -/

/-- The frame of an outbound modem message (R175): the tag of a POLL in the TAG byte, TAG 0 in the others (R172). -/
def OutMsg.frame : OutMsg → WireFrame
  | .poll tag t slot p => ⟨pollKind, byteOf tag.val, [byteOf (numberOf t), byteOf slot, byteOf p]⟩
  | .power t v f => ⟨powerKind, 0, [byteOf (numberOf t), byteOf v] ++ bytesOf f⟩
  | .profile t u d => ⟨profileKind, 0, [byteOf (numberOf t), byteOf u, byteOf d]⟩
  | .withdraw t => ⟨withdrawKind, 0, [byteOf (numberOf t)]⟩
  | .admission t p f u d =>
    ⟨admissionKind, 0, [byteOf (numberOf t), byteOf p] ++ bytesOf f ++ [byteOf u, byteOf d]⟩

/-- The bytes of an outbound modem message on the line. -/
def OutMsg.bytes (m : OutMsg) : List Byte := frameBytes m.frame

/-- The frame of a reply (R177): the answer header, then the contents. -/
def Reply.frame (r : Reply) : WireFrame :=
  ⟨replyKind, r.tag, r.answered :: byteOf r.status.code :: r.contents⟩

/-- The bytes of a reply on the line. -/
def Reply.bytes (r : Reply) : List Byte := frameBytes r.frame

/-! ### The control port's lines (R171) -/

/-- The level of a control-port line at rest: high. -/
def lineAtRest : Bool := true

/-- The ten bits of a byte on a control-port line, in time order: the start bit, the data bits from the least significant
on, the stop bit. -/
def lineBits (b : Byte) : List Bool := (!lineAtRest) :: (List.range 8).map (fun i => b.getLsbD i) ++ [lineAtRest]

/-- The byte that ten bits of a control-port line are taken as; the stop bit plays no part. -/
def byteOfLine (bits : List Bool) : Byte := byteOf (((bits.drop 1).take 8).foldr (fun b n => 2 * n + b.toNat) 0)

/-- The bits of a reply on the line: its bytes back to back. -/
def Reply.line (r : Reply) : List Bool := r.bytes.flatMap lineBits

/-! ### Modem messages received (R146, R147, R175) -/

/-- An outcome of a poll or of traffic: a response with its level and pilot errors as clamped, or none (R21). -/
structure Response where
  level : Int
  errors : Nat
deriving DecidableEq, Repr

/-- The clamps of R147 on a received level and pilot-error count. -/
def receivedResponse (level : BitVec 16) (errors : Byte) : Response :=
  ⟨clampInt (-480) (-80) level.toInt, clampNat 0 64 errors.toNat⟩

/-- A response is accepted when its pilot-error count is not above E_lim (R21). -/
def Response.accepted (m : Response) (errLimit : Nat) : Bool := m.errors ≤ errLimit

/-- The outcome of a POLL RESULT: 0x00 SILENT, 0x01 RESPONSE, any other code drops the message (R147, R173). -/
def pollOutcomeOf (outcome : Byte) (level : BitVec 16) (errors : Byte) : Option (Option Response) :=
  if outcome = 0x00 then some none
  else if outcome = 0x01 then some (some (receivedResponse level errors))
  else none

/-- The command a completed, known modem-link frame stands for (R146, R175). -/
def modemCommand (f : WireFrame) : Option Instr :=
  if !modemFrameKnown f then none
  else if f.kind = frameKind then some (.frame (wordAt f.body 0) (byteAt f.body 2))
  else if f.kind = burstKind then
    some (.burst (byteAt f.body 0) (wordAt f.body 1) (wordAt f.body 3) (byteAt f.body 5))
  else if f.kind = missKind then some (.miss (byteAt f.body 0) (wordAt f.body 1))
  else some (.pollResult f.tag (byteAt f.body 0) (wordAt f.body 1) (byteAt f.body 3))

end Sys2Proof.Machine
end

