-- ==== Sys2Proof/Machine/Flags.lean ====
section
/-! DEFINITION. The flags and the views computed from the state: frame order, the CHG line, admitted and searching phases,
the preempt-pending condition's parts, the counts of STATUS. -/

namespace Sys2Proof.Machine

/-- The places of a table with a function applied to each (on lists, which the kernel evaluates). -/
def mapPlaces {α β : Type} {n : Nat} (f : α → β) (v : Vector α n) : Vector β n := ⟨⟨v.toList.map f⟩, by simp⟩

/-- The table of a function of the place. -/
def placesOf {α : Type} {n : Nat} (f : Fin n → α) : Vector α n := ⟨⟨(List.finRange n).map f⟩, by simp⟩

/-- Frame `a` is earlier than frame `b`: (b − a) mod 65536 lies in 1..32767 (R148, 00 §5.2). -/
def earlier (a b : FrameNo) : Bool := 1 ≤ (b - a).toNat && (b - a).toNat ≤ 32767

/-- A phase that searches with polls, whose job is preemptible (R84, R96). -/
def Phase.searching : Phase → Bool
  | .coarse | .fine | .confirm => true
  | .settle | .verify => false

/-- A phase whose terminal is admitted (01 §1.2). -/
def Phase.admitted : Phase → Bool
  | .settle | .verify => true
  | .coarse | .fine | .confirm => false

/-- A state in which a terminal waits or is worked on, which keeps the sector out of CLEAR (01 §1.2, R135). -/
def TermState.waiting : TermState → Bool
  | .queued | .active | .suspended | .backoff | .held => true
  | .unused | .serving | .barred => false

/-- A state the sweep probes (R127). -/
def TermState.swept : TermState → Bool
  | .queued | .backoff | .held => true
  | .unused | .serving | .active | .suspended | .barred => false

/-- The CHG line is asserted exactly when the change map holds at least one mark (R165). -/
def State.chg (s : State) : Bool := s.sectorMark || s.marks.toList.any id

/-- The level of the CHG pin: true for high. The line is driven low while asserted (R171). -/
def State.chgPin (s : State) : Bool := !s.chg

/-- The record of a terminal. -/
def State.term (s : State) (t : TermId) : TermRec := s.terms.get t

/-- An engine's job, if it holds one. -/
def State.job (s : State) (e : EngineId) : Option Job := s.engines.get e

/-- The entry of a poll tag, if its place is not free. -/
def State.poll (s : State) (k : PollTag) : Option PollEntry := s.polls.get k

/-- A terminal's mark. -/
def State.marked (s : State) (t : TermId) : Bool := s.marks.get t

/-- The engine that holds a terminal's job, lowest number first. -/
def State.engineOf (s : State) (t : TermId) : Option EngineId :=
  allEngines.find? (fun e => (s.job e).any (fun j => j.term = t))

/-- A terminal held by an engine in SETTLE or VERIFY (01 §1.2). -/
def State.admitted (s : State) (t : TermId) : Bool :=
  allEngines.any (fun e => (s.job e).any (fun j => j.term = t && j.phase.admitted))

/-- Some provisioned terminal is QUEUED, ACTIVE, SUSPENDED, BACKOFF or HELD (R135). -/
def State.someWaiting (s : State) : Bool := allTerms.any (fun t => (s.term t).state.waiting)

/-- How many terminals are in a state (R160). -/
def State.countOf (s : State) (st : TermState) : Nat := allTerms.countP (fun t => (s.term t).state = st)

/-- The queue group a record belongs to (R73): 0 is class 0 heard, 1 class 0 unheard, 2 class 1 heard, and so on. -/
def TermRec.group (r : TermRec) : Nat := 2 * r.cls + (if r.heard then 0 else 1)

/-- The number of free places of the in-flight poll table (R119). -/
def State.freePlaces (s : State) : Nat := allTags.countP (fun k => (s.poll k).isNone)

/-- The effect frame of a command issued now: the current frame number plus Lp, modulo 65536 (R56). -/
def State.effectFrame (s : State) : FrameNo := s.lastFrame + BitVec.ofNat 16 s.params.latency

end Sys2Proof.Machine
end

