-- ==== Sys2Proof/Machine/Ops.lean ====
section
/-! DEFINITION. The named operations over the state: the record updates, the transition of R6, the change marks, the
outbound list, the restoration queue, and the work of one event with its evaluation trigger. -/

namespace Sys2Proof.Machine

/-! ### Updates -/

def State.setTerm (s : State) (t : TermId) (r : TermRec) : State := { s with terms := s.terms.set t.val r t.isLt }

def State.setJob (s : State) (e : EngineId) (j : Option Job) : State :=
  { s with engines := s.engines.set e.val j e.isLt }

def State.setPoll (s : State) (k : PollTag) (p : Option PollEntry) : State :=
  { s with polls := s.polls.set k.val p k.isLt }

def State.setQueue (s : State) (q : List TermId) : State := { s with queue := q }

def State.setStack (s : State) (k : List Context) : State := { s with stack := k }

/-- Sets a terminal's mark (R7, R164). -/
def State.mark (s : State) (t : TermId) : State := { s with marks := s.marks.set t.val true t.isLt }

/-- Puts a message at the end of the outbound list (R153). -/
def State.send (s : State) (m : OutMsg) : State := { s with outbox := s.outbox ++ [m] }

/-- Changes the sector mode; every change raises the sector mark (R133). -/
def State.setMode (s : State) (m : Mode) : State :=
  if s.mode = m then s else { s with mode := m, sectorMark := true }

/-- Draws the next grant serial (R79). -/
def State.nextSerial (s : State) : State := { s with serial := s.serial + 1 }

/-! ### Transitions (R6) -/

/-- The named transition of R6: applied, and the terminal marked (R7), when the terminal's state is the from-state; else
nothing changes. Leaving BACKOFF sets the backoff remaining to 0 (R4). -/
def State.transition (s : State) (t : TermId) (a b : TermState) : State :=
  if (s.term t).state = a then
    (s.setTerm t { s.term t with
      state := b
      backoff := if a = .backoff then 0 else (s.term t).backoff }).mark t
  else s

/-- Writes both profiles; the terminal is marked when either takes a new value (R3, R7). -/
def State.writeProfiles (s : State) (t : TermId) (up down : Nat) : State :=
  let r := s.term t
  let s' := s.setTerm t { r with up := up, down := down }
  if r.up = up ∧ r.down = down then s' else s'.mark t

/-! ### The restoration queue (R73, R74, R78) -/

/-- A terminal taken out of the queue; the others keep their order. -/
def State.leaveQueue (s : State) (t : TermId) : State := s.setQueue (s.queue.filter (· ≠ t))

/-- A terminal put at the end of the group that its class and heard flag give. -/
def State.joinEnd (s : State) (t : TermId) : State :=
  let g := (s.term t).group
  s.setQueue (s.queue.takeWhile (fun u => (s.term u).group ≤ g) ++
    t :: s.queue.dropWhile (fun u => (s.term u).group ≤ g))

/-- A terminal joins the queue as part of a transition into QUEUED (R74); a CLEAR sector becomes DEGRADED (R134). -/
def State.join (s : State) (t : TermId) : State :=
  let s' := s.joinEnd t
  if s'.mode = .clear then s'.setMode .degraded else s'

/-! ### The work of one event -/

/-- What an event has come to before its evaluation: the state, and whether a trigger of R80 has occurred. -/
structure Work where
  st : State
  due : Bool

/-- No trigger so far. -/
def Work.quiet (s : State) : Work := ⟨s, false⟩

/-- A trigger of R80 has occurred. -/
def Work.trigger (s : State) : Work := ⟨s, true⟩

/-- More work of the same event; the evaluation stays due once it is due (R80: it runs once). -/
def Work.andThen (w : Work) (f : State → Work) : Work := ⟨(f w.st).st, w.due || (f w.st).due⟩

/-- At the end of an event in which a terminal has left the waiting states, the mode becomes CLEAR when no terminal
waits (R135); leaving OUTAGE is a trigger (R80). -/
def Work.checkClear (w : Work) : Work :=
  if w.st.someWaiting then w else ⟨w.st.setMode .clear, w.due || w.st.mode = .outage⟩

/-- Lists in the order of a rank, equal ranks in their order. -/
def insertRanked {α : Type} (rank : α → Nat) (x : α) : List α → List α
  | [] => [x]
  | y :: l => if rank x ≤ rank y then x :: y :: l else y :: insertRanked rank x l

def sortRanked {α : Type} (rank : α → Nat) (l : List α) : List α := l.foldr (insertRanked rank) []

end Sys2Proof.Machine
end

