-- ==== Sys2Proof/Machine/Estimator.lean ====
section
/-! DEFINITION. The Link Estimator: fade samples, gates, smoothing, power targets, margins and profile choices (R21 to
R54). It keeps no state of its own. -/

namespace Sys2Proof.Machine

/-! ### Fade samples and gates -/

/-- The fade sample of a response of level `m` at power offset `p` (R22). -/
def fadeSample (refLevel : Int) (p : Nat) (m : Int) : Nat := (clampInt 0 240 (refLevel + p - m)).toNat

/-- A gate that begins (R28). -/
def Gate.begun (depth power : Nat) (countFrom : Option FrameNo) : Gate := ⟨depth, power, countFrom, 0, 0, 0, 0⟩

/-- One outcome counted into a gate: a response, or a missing response as 64 pilot errors (R29, R30). -/
def Gate.count (g : Gate) : Option Response → Gate
  | some m => { g with
      counted := g.counted + 1
      responses := g.responses + 1
      errorTotal := g.errorTotal + m.errors
      levelSum := g.levelSum + m.level }
  | none => { g with counted := g.counted + 1, errorTotal := g.errorTotal + 64 }

/-- A gate has gathered its depth (R29). -/
def Gate.full (g : Gate) : Bool := g.depth ≤ g.counted

/-- The outcomes of a judged gate (R31). -/
inductive Verdict where
  | accepted | heard | silent
deriving DecidableEq, Repr

/-- The judgement of a gate with the E_lim in force (R31). -/
def Gate.verdict (g : Gate) (errLimit : Nat) : Verdict :=
  if g.responses = 0 then .silent
  else if g.errorTotal ≤ g.depth * errLimit then .accepted
  else .heard

/-- The level of a gate: the mean of its responses' levels, rounded toward minus infinity (R32). -/
def Gate.level (g : Gate) : Int := Int.fdiv g.levelSum g.responses

/-- The gate sample (R33). -/
def Gate.sample (g : Gate) (refLevel : Int) : Nat := fadeSample refLevel g.power g.level

/-! ### The fade estimate -/

/-- The step of the smoothing before the clamp (R35 steps 1 to 3). -/
def smoothStep (alpha fade sample : Nat) : Int :=
  let diff : Int := sample - fade
  let step := Int.tdiv (diff * alpha) 8
  if step = 0 then (if 0 < diff then 1 else if diff < 0 then -1 else 0) else step

/-- The smoothing of a sample into F (R35). -/
def smooth (alpha fade sample : Nat) : Nat := (clampInt 0 240 (fade + smoothStep alpha fade sample)).toNat

/-! ### Targets and margins -/

/-- The power target P* (R41). -/
def powerTarget (fade allowance pmax : Nat) : Nat := (clampInt 0 pmax ((fade : Int) - allowance)).toNat

/-- The SETTLE target (R42). -/
def settleTarget (target found pmax : Nat) : Nat := clampNat 0 pmax (max target found)

/-- The downstream fade Fd (R43). -/
def downFade (fade ratio : Nat) : Nat := clampNat 0 255 ((fade * ratio + 8) / 16)

/-- The downstream margin Md (R44). -/
def marginDown (sd fd : Nat) : Int := (sd : Int) - fd

/-- The upstream margin Mu (R44). -/
def marginUp (su pc fade : Nat) : Int := (su : Int) + pc - fade

/-! ### The profile ladder -/

/-- The highest profile p with T[p] + h ≤ M, if any. -/
def Ladder.highest (l : Ladder) (h : Nat) (margin : Int) : Option Nat :=
  [7, 6, 5, 4, 3, 2, 1, 0].find? (fun p => ((l.at p + h : Nat) : Int) ≤ margin)

/-- Downstream below floor (R47). -/
def belowFloorDown (l : Ladder) (md : Int) : Bool := md < l.at 0

/-- Upstream below floor: only when the power can be raised no further (R47). -/
def belowFloorUp (l : Ladder) (mu : Int) (pc pmax : Nat) : Bool := mu < l.at 0 && pc = pmax

/-- One direction may be upgraded: the hold-off has run out and some profile above the current one is met with the
hysteresis (R49). -/
def mayUpgrade (l : Ladder) (c : Nat) (margin : Int) (holdOff : Nat) : Bool :=
  holdOff = 0 && [0, 1, 2, 3, 4, 5, 6, 7].any (fun p => c < p && ((l.at p + l.hysteresis : Nat) : Int) ≤ margin)

/-- One direction of the serving update (R48, R49): the new profile, and whether it was upgraded. -/
def serveDirection (l : Ladder) (c : Nat) (margin : Int) (holdOff : Nat) : Nat × Bool :=
  if margin < l.at c then ((l.highest 0 margin).getD 0, false)
  else if mayUpgrade l c margin holdOff then (c + 1, true)
  else (c, false)

/-- The serving verdict of R50: FLOOR, or the pair of profiles with whether the hold-off is loaded. -/
inductive ServingVerdict where
  | floor
  | pair (up down : Nat) (upgraded : Bool)
deriving DecidableEq, Repr

def servingVerdict (l : Ladder) (r : TermRec) (md mu : Int) : ServingVerdict :=
  if belowFloorDown l md || belowFloorUp l mu r.pc r.pmax then .floor
  else
    let d := serveDirection l r.down md r.holdOff
    let u := serveDirection l r.up mu r.holdOff
    .pair u.1 d.1 (u.2 || d.2)

/-- The entry profile of one direction not below floor (R52). -/
def entryProfile (l : Ladder) (margin : Int) : Nat := (l.highest l.hysteresis margin).getD 0

end Sys2Proof.Machine
end

