-- ==== Sys2Proof/Machine/Power.lean ====
section
/-! DEFINITION. The Power Command Unit (R55 to R62): issue, completion, refusal, supersede, the clamp to Pmax and the
admission, and the word it gives the engine of an admitted terminal. -/

namespace Sys2Proof.Machine

/-- A pending command made effective: Pe takes its value and it is absent (R57, R61). -/
def TermRec.effective (r : TermRec) : TermRec :=
  match r.pendingCmd with
  | some c => { r with pe := c.value, pendingCmd := none }
  | none => r

/-- The pending command is one whose effect frame is the current frame `n` (R57). -/
def TermRec.atEffect (r : TermRec) (n : FrameNo) : Bool := r.pendingCmd.any (fun c => c.effect = n)

/-- The completion of R57: a pending command whose effect frame is the current frame is in force. -/
def TermRec.completed (r : TermRec) (n : FrameNo) : TermRec := if r.atEffect n then r.effective else r

/-- The completion of R57 in the state, made whenever the unit takes a request or is asked for a burst's power. -/
def State.complete (s : State) (t : TermId) : State := s.setTerm t ((s.term t).completed s.lastFrame)

/-- The record of a command issued with value `v` and effect frame `f` (R56): Pc and the pending command; Pe stands. -/
def TermRec.issued (r : TermRec) (v : Nat) (f : FrameNo) : TermRec :=
  { r with pc := v, pendingCmd := some ⟨v, f⟩ }

/-- The record of a superseding command (R59): a command replaced opens or moves the ambiguity window. -/
def TermRec.superseded (r : TermRec) (v : Nat) (f : FrameNo) : TermRec :=
  { r.issued v f with ambigUntil := if r.pendingCmd.isSome then some f else r.ambigUntil }

/-- The value a command is issued with: clamped to 0..Pmax (R55). -/
def TermRec.issueValue (r : TermRec) (v : Nat) : Nat := clampNat 0 r.pmax v

/-- A VERIFY gate that begins at the terminal's Pc, from the frame its latest command counts from (R27, R28, R111). -/
def State.verifyGate (s : State) (t : TermId) (countFrom : Option FrameNo) : Gate :=
  .begun (s.term t).depth (s.term t).pc countFrom

/-- The engine of an admitted terminal learns of a command issued for it: the frame it counts from, and in VERIFY the gate
in progress is discarded and a new one begins (R28, R30). -/
def State.noteCommand (s : State) (t : TermId) (f : FrameNo) : State :=
  match s.engineOf t with
  | none => s
  | some e =>
    match s.job e with
    | none => s
    | some j =>
      match j.phase with
      | .settle => s.setJob e (some { j with cmdFrame := some f })
      | .verify => s.setJob e (some { j with cmdFrame := some f, gate := some (s.verifyGate t (some f)) })
      | _ => s

/-- A tracking or ramp request for the power `v` (R58): refused while a command is pending, granted without a command when
it asks for Pc, else issued as a POWER (R56). -/
def State.requestPower (s : State) (t : TermId) (v : Nat) : State :=
  let s := s.complete t
  let r := s.term t
  let v := r.issueValue v
  if r.pendingCmd.isSome then s
  else if v = r.pc then s
  else
    let f := s.effectFrame
    ((s.setTerm t (r.issued v f)).send (.power t v f)).noteCommand t f

/-- The Pmax clamp (R60): a superseding command to Pmax, sent as a POWER. -/
def State.clampPower (s : State) (t : TermId) : State :=
  let s := s.complete t
  let r := s.term t
  let v := r.issueValue r.pmax
  let f := s.effectFrame
  ((s.setTerm t (r.superseded v f)).send (.power t v f)).noteCommand t f

/-- An engine's ADMIT at power `v` with profiles 0 and 0 (R56, R59, R100 step 3). -/
def State.admitTerm (s : State) (t : TermId) (v : Nat) : State :=
  let s := s.complete t
  let r := s.term t
  let v := r.issueValue v
  let f := s.effectFrame
  ((s.setTerm t (r.superseded v f)).writeProfiles t 0 0).send (.admission t v f 0 0)

/-- The power a burst of frame `b` was sent at (R24), from the record after the completion of R57. -/
def TermRec.burstPower (r : TermRec) (b : FrameNo) : Nat :=
  match r.pendingCmd with
  | some c => if earlier b c.effect then r.pe else c.value
  | none => r.pe

end Sys2Proof.Machine
end

