-- ==== Sys2Proof/Machine/Arbiter.lean ====
section
/-! DEFINITION. The Restoration Queue and Arbiter: grant, resume, fill, preemption, evaluation and the preempt-pending flag
(R72 to R91), with the search start and the search gate of a job (R94, R95). -/

namespace Sys2Proof.Machine

/-! ### The start of a job -/

/-- The search start of R94, clamped to 0..Pmax: the loss power less Cs, or the start power. -/
def searchStart (r : TermRec) (coarseStep : Nat) : Nat :=
  match r.lossPower with
  | some p => clampNat 0 r.pmax (p - coarseStep)
  | none => clampNat 0 r.pmax r.startPower

/-- A search gate begins (R95): a poll power above Pmax becomes Pmax, and the accumulator begins at it with depth 1 in
COARSE and D in FINE and CONFIRM (R27, R28). -/
def Job.beginGate (j : Job) (r : TermRec) : Job :=
  let p := if r.pmax < j.pollPower then r.pmax else j.pollPower
  { j with
    pollPower := p
    gate := some (.begun (if j.phase = .coarse then 1 else r.depth) p none) }

/-- A job as a grant or a resume makes it (R92): no poll in flight, no admission, no gate yet. -/
def Job.fresh (t : TermId) (cls : Nat) (serial : Serial) (phase : Phase) (power limit confirmLeft : Nat) : Job where
  term := t
  cls := cls
  serial := serial
  phase := phase
  pollPower := power
  limitCount := limit
  confirmLeft := confirmLeft
  pollInFlight := none
  admitFrame := none
  ramp := none
  settleMiss := 0
  gate := none
  lastSample := none
  cmdFrame := none

/-- The grant of an engine to the queue head (R82). -/
def State.grant (s : State) (e : EngineId) (t : TermId) : State :=
  let s := (s.leaveQueue t).transition t .queued .active
  let s := (s.setTerm t { s.term t with heard := false }).nextSerial
  let r := s.term t
  let j := Job.fresh t r.cls s.serial .coarse (searchStart r s.params.coarseStep) 0 0
  s.setJob e (some (j.beginGate r))

/-- The resume of the stack top on an engine (R83). -/
def State.resume (s : State) (e : EngineId) (c : Context) (below : List Context) : State :=
  let s := ((s.setStack below).transition c.term .suspended .active).nextSerial
  let left := if c.phase = .confirm then s.params.confirmCount else 0
  let j := Job.fresh c.term c.cls s.serial c.phase c.pollPower c.limitCount left
  s.setJob e (some (j.beginGate (s.term c.term)))

/-! ### Evaluation (R80 to R86) -/

/-- What one idle engine takes (R81): the smaller class of stack top and queue head, the stack top on equal classes. -/
def State.fillEngine (s : State) (e : EngineId) : State :=
  if (s.job e).isSome then s
  else
    match s.stack, s.queue with
    | [], [] => s
    | [], t :: _ => s.grant e t
    | c :: k, [] => s.resume e c k
    | c :: k, t :: _ => if (s.term t).cls < c.cls then s.grant e t else s.resume e c k

/-- The fill step (R81). -/
def State.fill (s : State) : State := allEngines.foldl State.fillEngine s

/-- How many steps a job's serial lies behind the counter (R79). -/
def State.serialAge (s : State) (j : Job) : Nat := (s.serial - j.serial).toNat

/-- Of two preemptible jobs the first is the better victim: a larger class, or the same class and a later serial (R85). -/
def State.victimBefore (s : State) (a b : Job) : Bool :=
  b.cls < a.cls || (a.cls = b.cls && s.serialAge a < s.serialAge b)

/-- The victim so far and the next engine taken in engine order: on a tie the lower engine number stays (R85). -/
def State.victimStep (s : State) (best : Option (EngineId × Job)) (e : EngineId) : Option (EngineId × Job) :=
  match s.job e with
  | none => best
  | some j =>
    if j.phase.searching then
      match best with
      | none => some (e, j)
      | some b => if s.victimBefore j b.2 then some (e, j) else some b
    else best

/-- The preemptible job with the largest class, the latest serial among those, and then the lowest engine (R85). -/
def State.victim (s : State) : Option (EngineId × Job) := allEngines.foldl s.victimStep none

/-- Conditions 1 to 3 of R84: all engines hold jobs, the queue has a head, and the victim's class is greater than the
head's. It gives the victim's engine and job and the head. -/
def State.preemptWanted (s : State) : Option (EngineId × Job × TermId) :=
  if allEngines.all (fun e => (s.job e).isSome) then
    match s.queue, s.victim with
    | t :: _, some (e, j) => if (s.term t).cls < j.cls then some (e, j, t) else none
    | _, _ => none
  else none

/-- The context of a job set aside (R86 step 1, R113). -/
def Job.context (j : Job) : Context := ⟨j.term, j.cls, j.phase, j.pollPower, j.limitCount, j.confirmLeft⟩

/-- A preemption (R86): the victim's context is pushed and its terminal SUSPENDED; its engine takes the queue head. -/
def State.preempt (s : State) (e : EngineId) (j : Job) (t : TermId) : State :=
  ((s.setStack (j.context :: s.stack)).transition j.term .active .suspended).grant e t

/-- The preemption step (R84), with as many repetitions left as places of the stack: it ends after at most 8. -/
def preemptLoop : Nat → State → State
  | 0, s => s
  | n + 1, s =>
    match s.preemptWanted with
    | none => s
    | some (e, j, t) => if s.stack.length < 8 then preemptLoop n (s.preempt e j t) else s

/-- The arbiter's evaluation, skipped while HOLD is set or the sector is in OUTAGE (R80). -/
def State.evaluate (s : State) : State :=
  if s.hold || s.mode = .outage then s else preemptLoop 8 s.fill

/-- The preempt-pending condition: conditions 1 to 3 of R84 with 8 contexts on the stack (R89). -/
def State.preemptBlocked (s : State) : Bool := s.preemptWanted.isSome && 8 ≤ s.stack.length

/-- The re-examination of the preempt-pending flag (R89). -/
def State.reexamine (s : State) : State := { s with preemptPending := s.preemptBlocked }

/-- The end of an event: the evaluation if one is due (R80), then the re-examination of preempt-pending (R89). -/
def Work.close (w : Work) : State := (if w.due then w.st.evaluate else w.st).reexamine

end Sys2Proof.Machine
end

