-- ==== Sys2Proof/Machine/Monitor.lean ====
section
/-! DEFINITION. The Sector Monitor and the loss procedure: outage entry, the loss window, loss (R67 to R70, R133 to
R143). -/

namespace Sys2Proof.Machine

/-- One engine's job abandoned at outage entry (R139): WITHDRAW if admitted, the engine idle, the terminal QUEUED. -/
def State.abandonJob (s : State) (e : EngineId) : State :=
  match s.job e with
  | none => s
  | some j =>
    let s := if j.phase.admitted then s.send (.withdraw j.term) else s
    (s.setJob e none).transition j.term .active .queued

/-- The abandonment list (R139, R140): the jobs' terminals in engine order, then the contexts' from top to bottom. -/
def State.abandonList (s : State) : List TermId :=
  allEngines.filterMap (fun e => (s.job e).map Job.term) ++ s.stack.map Context.term

/-- The queue after outage entry (R75, R77): in each class the listed terminals, then the heard ones, then the unheard. -/
def State.requeued (s : State) (abandoned : List TermId) : List TermId :=
  [0, 1, 2, 3].flatMap fun c =>
    abandoned.filter (fun t => (s.term t).cls = c) ++
    s.queue.filter (fun t => (s.term t).cls = c ∧ (s.term t).heard) ++
    s.queue.filter (fun t => (s.term t).cls = c ∧ !(s.term t).heard)

/-- Clears the heard flag of every QUEUED terminal (R140). -/
def State.clearHeard (s : State) : State :=
  { s with terms := mapPlaces (fun r => if r.state = .queued then { r with heard := false } else r) s.terms }

/-- Entry into OUTAGE (R139, R140). -/
def State.enterOutage (s : State) : State :=
  let listed := s.abandonList
  let contexts := s.stack.map Context.term
  let s := allEngines.foldl State.abandonJob (s.setMode .outage)
  let s := contexts.foldl (fun s t => s.transition t .suspended .queued) (s.setStack [])
  { (s.setQueue (s.requeued listed)).clearHeard with lossWindow := [] }

/-- A loss by measurement offered to the loss window: an entry unless the sector is in OUTAGE (R136), then the quorum test
(R138). -/
def State.offerLoss (s : State) : State :=
  if s.mode = .outage then s
  else
    let s := { s with lossWindow := s.lossWindow ++ [s.params.windowLength] }
    if s.mode = .degraded ∧ s.params.quorum ≤ s.lossWindow.length then s.enterOutage else s

/-- The record of a lost terminal (R67 steps 2 and 3). -/
def TermRec.lost (r : TermRec) (reason : LossReason) (n : FrameNo) : TermRec :=
  { r with lossPower := some r.pe, lostAt := some n, lossReason := some reason, foundPower := none,
           retries := 0, heard := false, missCount := 0 }

/-- The loss of a SERVING terminal (R67, R68). Its queue join makes an evaluation due. -/
def State.lose (s : State) (t : TermId) (reason : LossReason) : State :=
  let s := (s.complete t).send (.withdraw t)
  let s := s.setTerm t ((s.term t).lost reason s.lastFrame)
  let s := (s.transition t .serving .queued).join t
  if reason = .forced then s else s.offerLoss

end Sys2Proof.Machine
end

