-- ==== Sys2Proof/Machine/Engine.lean ====
section
/-! DEFINITION. The re-entry engines: search gates, CONFIRM's end, exhaustion, the SETTLE ramp, VERIFY and the return to
FINE (R92 to R115, R29 to R37, R53). -/

namespace Sys2Proof.Machine

/-! ### Exhaustion and the return to FINE -/

/-- The backoff remaining set at exhaustion (R102): Bb × 2^e with e the smaller of retries − 1 and 5, at most 65535. -/
def backoffFrames (base retries : Nat) : Nat := min (base * 2 ^ min (retries - 1) 5) 65535

/-- Exhaustion of a job (R101). The engine's becoming idle makes an evaluation due. -/
def State.exhaust (s : State) (e : EngineId) (j : Job) : State :=
  let retries := min ((s.term j.term).retries + 1) 15
  let s := s.setTerm j.term { s.term j.term with retries := retries }
  let s := if j.phase.admitted then s.send (.withdraw j.term) else s
  let s :=
    if retries ≤ s.params.retryLimit then
      let s := s.transition j.term .active .backoff
      s.setTerm j.term { s.term j.term with backoff := backoffFrames s.params.backoffBase retries }
    else s.transition j.term .active .held
  s.setJob e none

/-- A job whose limit count a gate at the ceiling raises (R98, R110 step 1). -/
def Job.raiseLimit (j : Job) (atCeiling : Bool) : Job :=
  if atCeiling then { j with limitCount := j.limitCount + 1 } else j

/-- The raised limit count exhausts the search (R98). -/
def Job.limitReached (j : Job) (atCeiling : Bool) (limitPolls : Nat) : Bool := atCeiling && limitPolls ≤ j.limitCount

/-- The return of an admitted job to FINE at a poll power (R110). -/
def State.returnToFine (s : State) (e : EngineId) (j : Job) (power : Nat) : Work :=
  let r := s.term j.term
  let ceiling : Bool := r.pmax ≤ r.pc
  let j := j.raiseLimit ceiling
  if j.limitReached ceiling s.params.limitPolls then .trigger (s.exhaust e j)
  else
    let s := s.send (.withdraw j.term)
    let j := { j with
      phase := .fine
      pollPower := clampNat 0 r.pmax power
      admitFrame := none
      ramp := none
      gate := none
      cmdFrame := none }
    .quiet (s.setJob e (some (j.beginGate r)))

/-! ### SETTLE and VERIFY -/

/-- Entry into VERIFY (R111): the ramp fields are discarded, the admit frame kept, and a VERIFY gate begins. -/
def State.enterVerify (s : State) (e : EngineId) (j : Job) : State :=
  s.setJob e (some { j with phase := .verify, ramp := none, gate := some (s.verifyGate j.term j.cmdFrame) })

/-- The spacing of ramp ticks: max(R, Lp), read now (R105, R106). -/
def State.tickSpacing (s : State) : Nat := max s.params.rampInterval s.params.latency

/-- The SETTLE target as it stands (R42, R107 step 1). Every job in SETTLE has a found power. -/
def State.rampTarget (s : State) (t : TermId) : Nat :=
  let r := s.term t
  settleTarget (powerTarget r.fade s.params.allowance r.pmax) (r.foundPower.getD 0) r.pmax

/-- SETTLE begins after the ADMIT with effect frame `f` (R105). -/
def State.beginSettle (s : State) (e : EngineId) (j : Job) (f : FrameNo) : State :=
  let target := s.rampTarget j.term
  let j := { j with
    phase := .settle
    admitFrame := some f
    cmdFrame := some f
    settleMiss := 0
    gate := none
    lastSample := none }
  if target = (s.term j.term).pc then s.enterVerify e j
  else s.setJob e (some { j with ramp := some ⟨target, s.params.slowStep, .still, s.tickSpacing⟩ })

/-- CONFIRM ends with a last ACCEPTED gate of power `p` and sample `fu` (R100, R37): found power, F, ADMIT, SETTLE. -/
def State.endConfirm (s : State) (e : EngineId) (j : Job) (p fu : Nat) : State :=
  let r := s.term j.term
  let found := clampNat 0 r.pmax p
  let s := s.setTerm j.term { r with foundPower := some found, fade := fu }
  let s := s.admitTerm j.term found
  s.beginSettle e j s.effectFrame

/-- The direction from the present power toward the target. -/
def directionTo (pc target : Nat) : StepDir := if pc < target then .up else if target < pc then .down else .still

/-- Two directions are opposite (R107 step 2). -/
def StepDir.opposite : StepDir → StepDir → Bool
  | .up, .down | .down, .up => true
  | _, _ => false

/-- The next ramp step after a step taken (R108 step 6): shrinking once the remaining distance is within the smaller
steps' sum, else growing. -/
def nextStep (slow fast step distance : Nat) : Nat :=
  if distance ≤ step * (step - 1) / 2 then max (step - 1) slow else min (step + 1) fast

/-- A ramp step brought within Ls..Lf (R108 step 1). -/
def rampStepSize (slow fast step : Nat) : Nat := clampNat slow fast step

/-- The step of a ramp tick (R108), from a distance `d` above 0 with no command pending. -/
def State.rampStep (s : State) (e : EngineId) (j : Job) (target step : Nat) (dir : StepDir) (d : Nat) : State :=
  let size := rampStepSize s.params.slowStep s.params.fastStep step
  let moved := min size d
  let pc := (s.term j.term).pc
  let s := s.requestPower j.term (if dir = .up then pc + moved else pc - moved)
  let j := { j with cmdFrame := some s.effectFrame }
  if d - moved = 0 then s.enterVerify e j
  else
    s.setJob e (some { j with
      ramp := some ⟨target, nextStep s.params.slowStep s.params.fastStep size (d - moved), dir, s.tickSpacing⟩ })

/-- A ramp tick of an engine in SETTLE (R107), the countdown reloaded while the job stays in SETTLE (R106). -/
def State.rampTick (s : State) (e : EngineId) (j : Job) (rp : Ramp) : State :=
  let pc := (s.term j.term).pc
  let target := s.rampTarget j.term
  let dir := directionTo pc target
  let step := if dir.opposite rp.dir then s.params.slowStep else rp.step
  let d := (target - pc) + (pc - target)
  if d = 0 then s.enterVerify e j
  else
    let s := s.complete j.term
    if (s.term j.term).pendingCmd.isSome then
      s.setJob e (some { j with ramp := some ⟨target, step, rp.dir, s.tickSpacing⟩ })
    else s.rampStep e j target step dir d

/-- A BURST or MISS of a terminal in SETTLE (R109). -/
def State.settleReport (s : State) (e : EngineId) (j : Job) (b : FrameNo) (o : Option Response) : Work :=
  if j.admitFrame.any (fun a => earlier b a) then .quiet s
  else if o.any (fun m => m.accepted s.params.errLimit) then .quiet (s.setJob e (some { j with settleMiss := 0 }))
  else
    let j := { j with settleMiss := min (j.settleMiss + 1) 15 }
    if s.params.missLimit ≤ j.settleMiss then s.returnToFine e j (s.term j.term).pc
    else .quiet (s.setJob e (some j))

/-- The hand-back to SERVING with the entry profiles (R53, R5, R51). -/
def State.handBack (s : State) (e : EngineId) (t : TermId) (up down : Nat) : Work :=
  let s := (s.writeProfiles t up down).send (.profile t up down)
  let s := s.setTerm t { s.term t with holdOff := s.params.holdOffLoad, missCount := 0 }
  let s := s.transition t .active .serving
  let s := s.setTerm t { s.term t with lossPower := none, lostAt := none, lossReason := none }
  (Work.trigger (s.setJob e none)).checkClear

/-- An ACCEPTED VERIFY gate (R112, R53): the sample smoothed into F, the margins at the gate's power, the entry choice. -/
def State.verifyAccepted (s : State) (e : EngineId) (j : Job) (g : Gate) : Work :=
  let r := s.term j.term
  let fade := smooth s.params.alpha r.fade (g.sample r.refLevel)
  let s := s.setTerm j.term { r with fade := fade }
  let md := marginDown r.sd (downFade fade s.params.ratio)
  let mu := marginUp r.su g.power fade
  if belowFloorDown s.ladder md || belowFloorUp s.ladder mu r.pc r.pmax then .trigger (s.exhaust e j)
  else s.handBack e j.term (entryProfile s.ladder mu) (entryProfile s.ladder md)

/-- A judged VERIFY gate (R112). -/
def State.judgeVerify (s : State) (e : EngineId) (j : Job) (g : Gate) : Work :=
  match g.verdict s.params.errLimit with
  | .accepted => s.verifyAccepted e j g
  | _ => s.returnToFine e j ((s.term j.term).pc + s.params.fineStep)

/-- A BURST or MISS of a terminal in VERIFY (R30): passed over when earlier than the count-from frame, else counted, and
the gate judged when it has gathered its depth. -/
def State.verifyReport (s : State) (e : EngineId) (j : Job) (b : FrameNo) (o : Option Response) : Work :=
  match j.gate with
  | none => .quiet s
  | some g =>
    if g.countFrom.any (fun c => earlier b c) then .quiet s
    else
      let g := g.count o
      if g.full then s.judgeVerify e j g else .quiet (s.setJob e (some { j with gate := some g }))

/-! ### The search -/

/-- An ACCEPTED search gate of power `p` and sample `fu` (R97, R99): one CONFIRM gate fewer, or the entry into CONFIRM. -/
def State.searchAccepted (s : State) (e : EngineId) (j : Job) (p fu : Nat) : State :=
  let left := if j.phase = .confirm then j.confirmLeft - 1 else s.params.confirmCount - 1
  let j := { j with phase := .confirm, confirmLeft := left, pollPower := p, lastSample := some fu }
  if left = 0 then s.endConfirm e j p fu else s.setJob e (some (j.beginGate (s.term j.term)))

/-- The phase after a non-accepted search gate (R97). -/
def phaseAfterMiss (p : Phase) (v : Verdict) : Phase := if p = .coarse ∧ v = .silent then .coarse else .fine

/-- The poll power after a non-accepted search gate of power `power` (R97). -/
def powerAfterMiss (p : Phase) (v : Verdict) (power pmax coarseStep fineStep : Nat) : Nat :=
  match p, v with
  | .coarse, .heard => power
  | .coarse, _ => min (power + coarseStep) pmax
  | _, _ => min (power + fineStep) pmax

/-- A HEARD or SILENT search gate (R97, R98). A job that falls from CONFIRM to FINE keeps the confirmation remaining it held,
and READ QUEUE reports it: R99 says that the value is not used again, not whether it stays. DESIGN CHOICE, log entry 16. -/
def State.searchMissed (s : State) (e : EngineId) (j : Job) (g : Gate) (v : Verdict) : Work :=
  let r := s.term j.term
  let ceiling : Bool := r.pmax ≤ g.power
  let j := j.raiseLimit ceiling
  if j.limitReached ceiling s.params.limitPolls then .trigger (s.exhaust e j)
  else
    let j := { j with
      phase := phaseAfterMiss j.phase v
      pollPower := powerAfterMiss j.phase v g.power r.pmax s.params.coarseStep s.params.fineStep }
    .quiet (s.setJob e (some (j.beginGate r)))

/-- A search gate that has gathered its depth is judged (R31, R97). -/
def State.judgeSearch (s : State) (e : EngineId) (j : Job) (g : Gate) : Work :=
  match g.verdict s.params.errLimit with
  | .accepted => .quiet (s.searchAccepted e j g.power (g.sample (s.term j.term).refLevel))
  | v => s.searchMissed e j g v

/-- A poll outcome handed to the job that sent the poll (R96, R29): its poll in flight becomes absent and the outcome is
counted into its gate. -/
def State.handOutcome (s : State) (e : EngineId) (j : Job) (o : Option Response) : Work :=
  let j := { j with pollInFlight := none }
  match j.gate with
  | none => .quiet (s.setJob e (some j))
  | some g =>
    if j.phase.searching then
      let g := g.count o
      if g.full then s.judgeSearch e j g else .quiet (s.setJob e (some { j with gate := some g }))
    else .quiet (s.setJob e (some j))

end Sys2Proof.Machine
end

