-- ==== Sys2Proof/Machine/Tracking.lean ====
section
/-! DEFINITION. The Tracking Unit (R63 to R66) and the routing of traffic reports (R147, R151). -/

namespace Sys2Proof.Machine

/-- The tracking move toward P* (R64): none within the deadband, else at most Ts. -/
def State.trackPower (s : State) (t : TermId) (target : Nat) : State :=
  let pc := (s.term t).pc
  if (target - pc) + (pc - target) ≤ s.params.deadband then s
  else if pc < target then s.requestPower t (pc + min (target - pc) s.params.trackStep)
  else s.requestPower t (pc - min (pc - target) s.params.trackStep)

/-- The serving verdict's pair of profiles taken (R50 steps 2 and 3, R63 step 6): the hold-off loaded at an upgrade, both
profiles written and PROFILE sent when the pair differs. -/
def State.takePair (s : State) (t : TermId) (up down : Nat) (upgraded : Bool) : State :=
  let r := s.term t
  let s := if upgraded then s.setTerm t { r with holdOff := s.params.holdOffLoad } else s
  if r.up = up ∧ r.down = down then s else (s.writeProfiles t up down).send (.profile t up down)

/-- An accepted burst of a SERVING terminal that gives a fade sample (R63 steps 3 to 7). -/
def State.sampleBurst (s : State) (t : TermId) (b : FrameNo) (m : Response) : Work :=
  let s := s.complete t
  let r := s.term t
  let fade := smooth s.params.alpha r.fade (fadeSample r.refLevel (r.burstPower b) m.level)
  let r := { r with fade := fade }
  let s := s.setTerm t r
  let target := powerTarget fade s.params.allowance r.pmax
  let md := marginDown r.sd (downFade fade s.params.ratio)
  let mu := marginUp r.su r.pc fade
  match servingVerdict s.ladder r md mu with
  | .floor => .trigger (s.lose t .floor)
  | .pair up down upgraded => .quiet ((s.takePair t up down upgraded).trackPower t target)

/-- An accepted burst of a SERVING terminal (R63): the miss count cleared; no sample in an ambiguity window (R25). -/
def State.acceptedBurst (s : State) (t : TermId) (b : FrameNo) (m : Response) : Work :=
  let s := s.setTerm t { s.term t with missCount := 0 }
  if (s.term t).ambigUntil.any (fun a => earlier b a) then .quiet s else s.sampleBurst t b m

/-- A rejected burst or a MISS of a SERVING terminal (R65). -/
def State.missedTraffic (s : State) (t : TermId) : Work :=
  let n := min ((s.term t).missCount + 1) 15
  let s := s.setTerm t { s.term t with missCount := n }
  if s.params.missLimit ≤ n then .trigger (s.lose t .misses) else .quiet s

/-- A traffic report of a SERVING terminal at the Tracking Unit. -/
def State.trackReport (s : State) (t : TermId) (b : FrameNo) (o : Option Response) : Work :=
  match o with
  | some m => if m.accepted s.params.errLimit then s.acceptedBurst t b m else s.missedTraffic t
  | none => s.missedTraffic t

/-- The routing of a BURST or MISS by its terminal's state and its engine's phase (R151). -/
def State.routeReport (s : State) (t : TermId) (b : FrameNo) (o : Option Response) : Work :=
  match (s.term t).state with
  | .serving => s.trackReport t b o
  | .active =>
    match s.engineOf t with
    | none => .quiet s
    | some e =>
      match s.job e with
      | none => .quiet s
      | some j =>
        match j.phase with
        | .settle => s.settleReport e j b o
        | .verify => s.verifyReport e j b o
        | _ => .quiet s
  | _ => .quiet s

/-- A BURST or MISS at the modem link: a number outside 1..64 or an UNUSED terminal drops it (R147). -/
def State.takeReport (s : State) (terminal : Byte) (b : FrameNo) (o : Option Response) : State :=
  match termOf terminal.toNat with
  | none => s
  | some t => if (s.term t).state = .unused then s else (s.routeReport t b o).close

end Sys2Proof.Machine
end

