-- ==== Sys2Proof/Machine/Allocator.lean ====
section
/-! DEFINITION. The Poll Allocator and the Sweep Unit (R116 to R132): outcomes and their owners, the heard response, the
allocation of a mark's slots. -/

namespace Sys2Proof.Machine

/-! ### Outcomes -/

/-- What a heard response does to its terminal by its state (R130, R76). -/
def State.hear (s : State) (t : TermId) : Work :=
  match (s.term t).state with
  | .queued =>
    if (s.term t).heard then .quiet s
    else
      let s := (s.leaveQueue t).setTerm t { s.term t with heard := true }
      .trigger (s.joinEnd t)
  | .backoff =>
    let s := s.transition t .backoff .queued
    let s := s.setTerm t { s.term t with heard := true }
    .trigger (s.join t)
  | .held =>
    let s := s.transition t .held .queued
    let s := s.setTerm t { s.term t with heard := true, retries := 0 }
    .trigger (s.join t)
  | _ => .quiet s

/-- A heard response reported to the Sector Monitor: in OUTAGE it ends the outage, which is a trigger (R131, R142, R80). -/
def State.endOutage (s : State) : Work :=
  if s.mode = .outage then .trigger (s.setMode .degraded) else .quiet s

/-- The outcome of a sweep entry (R129): dropped when stale or when the terminal's state is not a swept one; SILENT
changes nothing; a response makes the terminal heard. -/
def State.sweepOutcome (s : State) (p : PollEntry) (o : Option Response) : Work :=
  if p.stale then .quiet s
  else if !(s.term p.term).state.swept then .quiet s
  else
    match o with
    | none => .quiet s
    | some _ => (s.hear p.term).andThen State.endOutage

/-- The outcome of an engine's entry (R123): dropped when stale or when the engine holds no job with the entry's serial. -/
def State.engineOutcome (s : State) (p : PollEntry) (e : EngineId) (serial : Serial) (o : Option Response) : Work :=
  if p.stale then .quiet s
  else
    match s.job e with
    | none => .quiet s
    | some j => if j.serial = serial then s.handOutcome e j o else .quiet s

/-- The outcome of an entry, freed already, matched to its owner (R122, R118). -/
def State.matchOutcome (s : State) (p : PollEntry) (o : Option Response) : Work :=
  match p.owner with
  | .engine e serial => s.engineOutcome p e serial o
  | .sweep => s.sweepOutcome p o

/-- A poll result or a timeout of a tag: the place is freed and the outcome matched; a free place drops it (R122). -/
def State.takeOutcome (s : State) (k : PollTag) (o : Option Response) : Work :=
  match s.poll k with
  | none => .quiet s
  | some p => (s.setPoll k none).matchOutcome p o

/-- RETIRE or BAR sets the stale flag of every entry that names the terminal (R124). -/
def State.markStale (s : State) (t : TermId) : State :=
  { s with polls := mapPlaces (fun o => o.map (fun p => if p.term = t then { p with stale := true } else p)) s.polls }

/-! ### Allocation (R117, R119 to R121) -/

/-- An engine needs a poll: its job searches with no poll in flight (R120). -/
def State.needsPoll (s : State) (e : EngineId) : Bool :=
  (s.job e).any (fun j => j.phase.searching && j.pollInFlight.isNone)

/-- The class by which an engine is taken (R120). -/
def State.jobClass (s : State) (e : EngineId) : Nat := ((s.job e).map Job.cls).getD 0

/-- The engines that need a poll, in ascending class, then engine number (R120). -/
def State.pollOrder (s : State) : List EngineId :=
  sortRanked s.jobClass (allEngines.filter (fun e => s.needsPoll e))

/-- The free place with the lowest tag (R117). -/
def State.freeTag (s : State) : Option PollTag := allTags.find? (fun k => (s.poll k).isNone)

/-- A poll is issued at a tag: the entry with a countdown of 8, and the POLL sent (R117). -/
def State.issuePoll (s : State) (k : PollTag) (t : TermId) (owner : PollOwner) (power slot : Nat) : State :=
  (s.setPoll k (some ⟨t, owner, power, 8, false⟩)).send (.poll k t slot power)

/-- The power of an engine's poll: the power of the gate its job is gathering (R117). -/
def Job.gatePower (j : Job) : Nat := (j.gate.map Gate.power).getD j.pollPower

/-- One engine's poll, in the slot `slot` (R117, R96): nothing where no place is free. -/
def State.pollEngine (s : State) (e : EngineId) (slot : Nat) : State :=
  match s.job e, s.freeTag with
  | some j, some k =>
    (s.setJob e (some { j with pollInFlight := some k })).issuePoll k j.term (.engine e j.serial) j.gatePower slot
  | _, _ => s

/-- The engines' polls, one slot each from the slot `slot` on (R120). -/
def State.pollEngines (s : State) (slot : Nat) : List EngineId → State
  | [] => s
  | e :: es => (s.pollEngine e slot).pollEngines (slot + 1) es

/-- A sweep entry, stale or not, names the terminal (R127). -/
def State.sweepInFlight (s : State) (t : TermId) : Bool :=
  allTags.any (fun k => (s.poll k).any (fun p => p.term = t && p.owner = .sweep))

/-- A sweep candidate (R127). -/
def State.candidate (s : State) (t : TermId) : Bool := (s.term t).state.swept && !s.sweepInFlight t

/-- The order in which the sweep looks: from cursor + 1 up to 64, then from 1 up to the cursor (R127). -/
def sweepOrder (cursor : Nat) : List TermId := allTerms.drop cursor ++ allTerms.take cursor

/-- The next sweep candidate (R127). -/
def State.nextCandidate (s : State) : Option TermId := (sweepOrder s.cursor).find? (fun t => s.candidate t)

/-- The power of a sweep poll (R128): in OUTAGE Pmax, else the loss power or the start power, clamped to 0..Pmax. -/
def State.sweepPower (s : State) (t : TermId) : Nat :=
  let r := s.term t
  if s.mode = .outage then r.pmax else clampNat 0 r.pmax (r.lossPower.getD r.startPower)

/-- The sweep runs on this mark (R121). -/
def State.sweepRuns (s : State) : Bool :=
  match s.mode with
  | .clear => false
  | .degraded => s.params.sweepOn
  | .outage => true

/-- The sweep's polls, at most `n` of them from the slot `slot` on, the cursor moved by each (R121, R127). -/
def State.pollSweep (s : State) (slot : Nat) : Nat → State
  | 0 => s
  | n + 1 =>
    match s.nextCandidate, s.freeTag with
    | some t, some k =>
      ({ s.issuePoll k t .sweep (s.sweepPower t) slot with cursor := numberOf t }).pollSweep (slot + 1) n
    | _, _ => s

/-- The polls a mark may send: the smallest of the offered slots, S and the free places (R119). -/
def State.usableSlots (s : State) (slots : Nat) : Nat := min (min slots s.params.slotsPerFrame) s.freePlaces

/-- The allocation of a mark's slots: the engines first, then the sweep (R119 to R121). -/
def State.allocate (s : State) (slots : Nat) : State :=
  let usable := s.usableSlots slots
  let engines := s.pollOrder.take usable
  let s := s.pollEngines 0 engines
  if s.sweepRuns then s.pollSweep engines.length (usable - engines.length) else s

end Sys2Proof.Machine
end

