-- ==== Sys2Proof/Machine/FrameMark.lean ====
section
/-! DEFINITION. A frame mark: the slip verdict (R148) and each block's per-mark work (R149), in one event. The rules make
the blocks' work independent of the order among them, but for the order on a slip (log entry 15) and two orders that no rule
gives, which are free values (log entries 7 and 8). -/

namespace Sys2Proof.Machine

/-! ### The ends of operations, one by one -/

/-- The pending command of a terminal is in force when its effect frame is the current frame (R57). -/
def State.commandEffective (s : State) (t : TermId) : State := s.complete t

/-- The ambiguity window of a record closes when its frame is the current frame `n` (R57). -/
def TermRec.windowClosed (r : TermRec) (n : FrameNo) : TermRec :=
  if r.ambigUntil = some n then { r with ambigUntil := none } else r

/-- The ambiguity window of a terminal closes when its frame is the current frame (R57). -/
def State.closeWindow (s : State) (t : TermId) : State := s.setTerm t ((s.term t).windowClosed s.lastFrame)

/-- A terminal's backoff has expired: BACKOFF with a remaining of 0 (R103). -/
def State.backoffOver (s : State) (t : TermId) : Bool := (s.term t).state = .backoff && (s.term t).backoff = 0

/-- A backoff expiry (R103): QUEUED, unheard, at the end of the class's unheard group. -/
def State.expireBackoff (s : State) (t : TermId) : Work :=
  if s.backoffOver t then
    let s := s.transition t .backoff .queued
    let s := s.setTerm t { s.term t with heard := false }
    .trigger (s.join t)
  else .quiet s

/-- A ramp tick of an engine whose tick countdown stands at 0 (R106, R107). -/
def State.tickIfDue (s : State) (e : EngineId) : State :=
  match s.job e with
  | none => s
  | some j =>
    match j.phase, j.ramp with
    | .settle, some rp => if rp.tick = 0 then s.rampTick e j rp else s
    | _, _ => s

/-- An entry whose countdown stands at 0 has timed out: freed, its outcome SILENT (R118). -/
def State.timeoutIfDue (s : State) (k : PollTag) : Work :=
  if (s.poll k).any (fun p => p.countdown = 0) then s.takeOutcome k none else .quiet s

/-- The loss-window entries whose remaining life has reached 0 are removed (R137). -/
def State.expireLosses (s : State) : State := { s with lossWindow := s.lossWindow.filter (· ≠ 0) }

/-! ### The counts of a mark -/

/-- The Power Command Unit on a slip: the pending command in force, the window closed (R61). -/
def TermRec.slipped (r : TermRec) : TermRec := { r.effective with ambigUntil := none }

/-- The Power Command Unit's work on a mark of number `n` (R57, R61). -/
def TermRec.powerMark (r : TermRec) (slip : Bool) (n : FrameNo) : TermRec :=
  if slip then r.slipped else (r.completed n).windowClosed n

/-- The hold-off and the backoff remaining of a record counted down by one mark (R51, R103). -/
def TermRec.countMark (r : TermRec) : TermRec :=
  { r with holdOff := r.holdOff - 1, backoff := if r.state = .backoff then r.backoff - 1 else r.backoff }

/-- A frame later than the number of a slip is pulled back to it (R30, R61, R109). -/
def pulledBack (n f : FrameNo) : FrameNo := if earlier n f then n else f

/-- What a slip of number `n` does to a job (R28, R30, R61, R109): a SETTLE job's admit frame and a VERIFY gate's
count-from frame are pulled back, and the latest command counts from the slip. -/
def Job.slipped (j : Job) (n : FrameNo) : Job :=
  match j.phase with
  | .settle => { j with admitFrame := j.admitFrame.map (pulledBack n), cmdFrame := some n }
  | .verify =>
    { j with
      gate := j.gate.map (fun g => { g with countFrom := g.countFrom.map (pulledBack n) })
      cmdFrame := some n }
  | _ => j

/-- A job's tick countdown lowered by one mark, in SETTLE (R106). -/
def Job.countMark (j : Job) : Job :=
  { j with ramp := j.ramp.map (fun r => { r with tick := r.tick - 1 }) }

/-- An in-flight entry's countdown lowered by one mark (R118). -/
def PollEntry.countMark (p : PollEntry) : PollEntry := { p with countdown := p.countdown - 1 }

/-- Every count of the part lowered by one mark, and the Power Command Unit's work of that mark; what reaches 0 has not
been acted on yet. On a slip the pending commands are in force, and the frames pulled back, before the ramp ticks and the poll
timeouts of the same mark act. DEDUCED from "at once" in R61, where R149 gives no order: log entry 15. -/
def State.countMark (s : State) (slip : Bool) (n : FrameNo) : State :=
  { s with
    terms := mapPlaces (fun r => (r.powerMark slip n).countMark) s.terms
    engines := mapPlaces (fun o => o.map (fun j => (if slip then j.slipped n else j).countMark)) s.engines
    polls := mapPlaces (fun o => o.map PollEntry.countMark) s.polls
    lossWindow := s.lossWindow.map (· - 1) }

/-! ### The mark -/

/-- The terminal a message names. -/
def OutMsg.term : OutMsg → TermId
  | .poll _ t _ _ => t
  | .power t _ _ => t
  | .profile t _ _ => t
  | .withdraw t => t
  | .admission t _ _ _ _ => t

/-- The backoffs that expire on this mark, in the free order of their joins (log entry 7). -/
def State.expiring (s : State) : List TermId :=
  sortRanked (fun t => Config.expiryRank s.freeIndex t.val) (allTerms.filter (fun t => s.backoffOver t))

/-- Messages in an order that must stay, each with the largest rank met so far, from `m` on. -/
def climbing {α : Type} (rank : α → Nat) : Nat → List α → List (Nat × α)
  | _, [] => []
  | m, x :: l => (max m (rank x), x) :: climbing rank (max m (rank x)) l

/-- Two lists of messages merged by a rank: `kept` keeps its order, `free` takes the order of its ranks. Every merge is one
of some rank. -/
def mergeRanked {α : Type} (rank : α → Nat) (kept free : List α) : List α :=
  (sortRanked Prod.fst (climbing rank 0 kept ++ free.map (fun x => (rank x, x)))).map Prod.snd

/-- The messages of a mark's work before its POLLs, which stand in the list from place `n` on, those of the ramp ticks up to
place `m`. The engines tick in the order of their numbers (00 §5.3), and their POWERs leave in it (R153). How the ADMITs of
poll timeouts stand among one another and among these POWERs is a free value (R149, log entry 8). -/
def State.freeSendOrder (s : State) (n m : Nat) : State :=
  { s with outbox := s.outbox.take n ++
      mergeRanked (fun x => Config.sendRank s.freeIndex x.term.val) ((s.outbox.take m).drop n) (s.outbox.drop m) }

/-- The work of a mark after its counts: expiries, ramp ticks and timeouts (R103, R106, R118, R137). -/
def State.markEnds (s : State) : Work :=
  let expired := s.expireLosses.expiring.foldl (fun (w : Work) t => w.andThen (fun s => s.expireBackoff t))
    (Work.quiet s.expireLosses)
  let ticked := Work.andThen expired (fun s => Work.quiet (allEngines.foldl State.tickIfDue s))
  let timed := allTags.foldl (fun (w : Work) k => w.andThen (fun s => s.timeoutIfDue k)) ticked
  timed.andThen (fun s' => Work.quiet (s'.freeSendOrder s.outbox.length ticked.st.outbox.length))

/-- The modem link's part of a mark (R148, R150): the current frame number, the silence detector restarted. -/
def State.acceptMark (s : State) (n : FrameNo) : State :=
  { s with lastFrame := n, modemSilent := false, silenceMs := 0 }

/-- A mark of number `n` is a slip: it does not follow the last one (R148). -/
def State.isSlip (s : State) (n : FrameNo) : Bool := n ≠ s.lastFrame + 1

/-- A frame mark, whole (R148, R149): counts, ends of operations, the evaluation they make due, then the allocation of
the slots (R118, R80). The free values of the next mark are fresh. -/
def State.frameMark (s : State) (n : FrameNo) (slots : Nat) : State :=
  let s' := ((s.acceptMark n).countMark (s.isSlip n) n).markEnds.close.allocate (min slots 4)
  { s' with freeIndex := s'.freeIndex + 1 }

end Sys2Proof.Machine
end

