-- ==== Sys2Proof/Machine/Replies.lean ====
section
/-! DEFINITION. The contents of the replies, byte by byte (R177): what STATUS, READ SECTOR, SET LADDER, READ TERMINAL,
READ CHANGES and READ QUEUE report (R9, R115, R160, R163, R166, R168). -/

namespace Sys2Proof.Machine

/-- The part code and the revision of the SX64 (R177). -/
def partCode : Nat := 0x0B40
def revision : Nat := 1

/-- The flags byte of STATUS: bit 0 HOLD, bit 1 preempt-pending, bit 2 modem-silent. -/
def State.statusFlags (s : State) : Nat :=
  (if s.hold then 1 else 0) + (if s.preemptPending then 2 else 0) + (if s.modemSilent then 4 else 0)

/-- The two bytes of an engine in STATUS: its phase and its terminal, 0 and 0 when idle. -/
def engineStatus : Option Job → List Byte
  | none => [0, 0]
  | some j => [byteOf j.phase.code, byteOf (numberOf j.term)]

/-- The states in the order of their codes. -/
def allStates : List TermState := [.unused, .serving, .queued, .active, .suspended, .backoff, .held, .barred]

/-- The contents of a STATUS reply, 24 bytes (R160, R177). -/
def State.statusContents (s : State) : List Byte :=
  bytesOfNat partCode ++
  [byteOf revision, byteOf s.startCause.code, byteOf s.mode.code, byteOf s.statusFlags] ++
  allStates.map (fun st => byteOf (s.countOf st)) ++
  allEngines.flatMap (fun e => engineStatus (s.job e)) ++
  [byteOf s.stack.length, byteOf s.queue.length]

/-- The sector parameter record in body order, 25 bytes (R176). -/
def SectorParams.contents (p : SectorParams) : List Byte :=
  [byteOf p.alpha, byteOf p.allowance, byteOf p.ratio, byteOf p.errLimit, byteOf p.missLimit, byteOf p.trackStep,
   byteOf p.deadband, byteOf p.latency, byteOf p.coarseStep, byteOf p.fineStep, byteOf p.limitPolls,
   byteOf p.confirmCount, byteOf p.retryLimit] ++ bytesOfNat p.backoffBase ++
  [byteOf p.slowStep, byteOf p.fastStep, byteOf p.rampInterval, byteOf p.slotsPerFrame, flagByte p.sweepOn] ++
  bytesOfNat p.windowLength ++ [byteOf p.quorum] ++ bytesOfNat p.holdOffLoad

/-- The ladder, 9 bytes: T[0] to T[7], then H (R176). -/
def Ladder.contents (l : Ladder) : List Byte := l.thresholds.toList.map byteOf ++ [byteOf l.hysteresis]

/-- The contents of a SET SECTOR or READ SECTOR reply, 34 bytes (R163). -/
def State.sectorContents (s : State) : List Byte := s.params.contents ++ s.ladder.contents

/-- An optional byte: zero when absent (R173). -/
def optByte (o : Option Nat) : Byte := byteOf (o.getD 0)

/-- An optional frame number: zeros when absent (R173). -/
def optFrame (o : Option FrameNo) : List Byte := bytesOf (o.getD 0)

/-- The presence byte of READ TERMINAL (R177). -/
def TermRec.presence (r : TermRec) : Nat :=
  (if r.pendingCmd.isSome then 1 else 0) + (if r.ambigUntil.isSome then 2 else 0) +
  (if r.lossPower.isSome then 4 else 0) + (if r.foundPower.isSome then 8 else 0) +
  (if r.lostAt.isSome then 16 else 0)

/-- The contents of a READ TERMINAL reply for terminal number `n`, 33 bytes (R9, R177). -/
def TermRec.contents (r : TermRec) (n : Nat) : List Byte :=
  [byteOf n, byteOf r.state.code, byteOf r.cls] ++ bytesOfInt r.refLevel ++
  [byteOf r.su, byteOf r.sd, byteOf r.pmax, byteOf r.startPower, byteOf r.depth, byteOf r.pc, byteOf r.pe,
   byteOf r.presence, optByte (r.pendingCmd.map PowerCmd.value)] ++
  optFrame (r.pendingCmd.map PowerCmd.effect) ++ optFrame r.ambigUntil ++
  [byteOf r.fade, byteOf r.up, byteOf r.down] ++ bytesOfNat r.holdOff ++
  [byteOf r.missCount, flagByte r.heard, byteOf r.retries] ++ bytesOfNat r.backoff ++
  [optByte r.lossPower, optByte r.foundPower] ++ optFrame r.lostAt ++ [byteOf (lossReasonCode r.lossReason)]

/-- The marked terminals in ascending number (R166). -/
def State.markedTerms (s : State) : List TermId := allTerms.filter (fun t => s.marked t)

/-- The terminals one READ CHANGES reports: the marked ones, up to 16 (R166). -/
def State.reportedTerms (s : State) : List TermId := s.markedTerms.take 16

/-- The six bytes of a terminal in READ CHANGES (R166). -/
def State.changeEntry (s : State) (t : TermId) : List Byte :=
  let r := s.term t
  [byteOf (numberOf t), byteOf r.state.code, byteOf r.up, byteOf r.down, byteOf r.pc,
   byteOf (lossReasonCode r.lossReason)]

/-- The contents of a READ CHANGES reply, built from the map before its marks are cleared (R166, R177). -/
def State.changesContents (s : State) : List Byte :=
  [if s.sectorMark then byteOf s.mode.code else 0xFF, byteOf s.reportedTerms.length] ++
  s.reportedTerms.flatMap s.changeEntry ++ [flagByte (16 < s.markedTerms.length)]

/-- The marks READ CHANGES clears: the sector mark and the marks of the terminals reported (R167). -/
def State.clearReported (s : State) : State :=
  { s with
    sectorMark := false
    marks := placesOf (fun t => s.marked t && !s.reportedTerms.contains t) }

/-- The two bytes of a queue entry: the terminal, then class in bits 0 and 1 and heard flag in bit 7 (R177). -/
def State.queueEntry (s : State) (t : TermId) : List Byte :=
  [byteOf (numberOf t), byteOf ((s.term t).cls + if (s.term t).heard then 128 else 0)]

/-- The eleven bytes of an engine in READ QUEUE (R115, R177): zeros when idle; the ramp target, ramp step and SETTLE miss
count are 0 outside SETTLE. -/
def engineContents : Option Job → List Byte
  | none => List.replicate 11 0
  | some j =>
    [byteOf j.phase.code, byteOf (numberOf j.term), byteOf j.cls] ++ bytesOf j.serial ++
    [byteOf j.pollPower, byteOf j.limitCount, byteOf j.confirmLeft] ++
    (if j.phase = .settle then
      [optByte (j.ramp.map Ramp.target), optByte (j.ramp.map Ramp.step), byteOf j.settleMiss]
     else [0, 0, 0])

/-- The six bytes of a stack context in READ QUEUE (R177). -/
def Context.contents (c : Context) : List Byte :=
  [byteOf (numberOf c.term), byteOf c.cls, byteOf c.phase.code, byteOf c.pollPower, byteOf c.limitCount,
   byteOf c.confirmLeft]

/-- The contents of a READ QUEUE reply (R168, R177). -/
def State.queueContents (s : State) : List Byte :=
  [byteOf s.queue.length] ++ s.queue.flatMap s.queueEntry ++
  allEngines.flatMap (fun e => engineContents (s.job e)) ++
  [byteOf s.stack.length] ++ s.stack.flatMap Context.contents ++ [flagByte s.preemptPending]

end Sys2Proof.Machine
end

