-- ==== Sys2Proof/Machine/Requests.lean ====
section
/-! DEFINITION. The control-port requests: what each one carries out, its status and its reply contents (R8 to R20, R46,
R90, R91, R156 to R169). -/

namespace Sys2Proof.Machine

/-- A request carried out: the state, the reply's status and its contents (R159). -/
structure Answer where
  st : State
  status : Status
  contents : List Byte

/-- Answered OK with no reply contents. -/
def Answer.done (s : State) : Answer := ⟨s, .ok, []⟩

/-- Refused with a status: nothing changes and the reply carries no contents (R159). -/
def Answer.refuse (s : State) (st : Status) : Answer := ⟨s, st, []⟩

/-! ### Terminal requests -/

/-- The checks of R8 on a request that writes: above 64 BAD_TERMINAL, 0 OK with nothing done, else the request on the
terminal named. -/
def State.onTerminal (s : State) (n : Nat) (f : TermId → Answer) : Answer :=
  if 64 < n then .refuse s .badTerminal
  else
    match termOf n with
    | none => .done s
    | some t => f t

/-- The check of R8 that the record is provisioned. -/
def State.onProvisioned (s : State) (n : Nat) (f : TermId → Answer) : Answer :=
  s.onTerminal n fun t => if (s.term t).state = .unused then .refuse s .notProvisioned else f t

/-- READ TERMINAL (R8, R9). -/
def carryReadTerminal (body : List Byte) (s : State) : Answer :=
  let n := numAt body 0
  if 64 < n then .refuse s .badTerminal
  else
    match termOf n with
    | none => ⟨s, .ok, TermRec.powerOn.contents n⟩
    | some t =>
      if (s.term t).state = .unused then ⟨s, .ok, TermRec.powerOn.contents n⟩
      else ⟨s, .ok, (s.term t).contents n⟩

/-- The record PROVISION creates (R10, R62): the clamped values, Pc and Pe at the start power. -/
def provisionedRec (body : List Byte) : TermRec :=
  let v := (provisionedAt body).clamped
  { TermRec.powerOn.withValues v with pc := v.startPower, pe := v.startPower }

/-- PROVISION entering as SERVING (R11): ADMIT is sent and no command is pending. -/
def State.provisionServing (s : State) (t : TermId) (body : List Byte) : State :=
  let r := provisionedRec body
  let s := s.setTerm t { r with up := upAt body, down := downAt body, holdOff := s.params.holdOffLoad }
  (s.transition t .unused .serving).send (.admission t r.startPower s.effectFrame (upAt body) (downAt body))

/-- PROVISION entering as RESTORE (R12). -/
def State.provisionRestore (s : State) (t : TermId) (body : List Byte) : State :=
  let s := s.setTerm t { provisionedRec body with lossReason := some .forced, lostAt := some s.lastFrame }
  (Work.trigger ((s.transition t .unused .queued).join t)).close

/-- PROVISION (R10 to R12). -/
def carryProvision (body : List Byte) (s : State) : Answer :=
  s.onTerminal (numAt body 0) fun t =>
    if (s.term t).state ≠ .unused then .refuse s .alreadyExists
    else if entersServing body then .done (s.provisionServing t body)
    else .done (s.provisionRestore t body)

/-- The new class written into whichever collection holds the terminal (R14). -/
def State.changeClass (s : State) (t : TermId) (cls : Nat) : Work :=
  match (s.term t).state with
  | .queued =>
    let s := (s.leaveQueue t).setTerm t { s.term t with cls := cls }
    .trigger (s.joinEnd t)
  | .active =>
    let s := s.setTerm t { s.term t with cls := cls }
    .trigger { s with engines := mapPlaces (fun o => o.map (fun j => if j.term = t then { j with cls := cls } else j)) s.engines }
  | .suspended =>
    let s := s.setTerm t { s.term t with cls := cls }
    .trigger (s.setStack (s.stack.map (fun c => if c.term = t then { c with cls := cls } else c)))
  | _ => .quiet (s.setTerm t { s.term t with cls := cls })

/-- The seven values stored (R13 step 1), the class with its effect when it changes (R14). -/
def State.storeValues (s : State) (t : TermId) (v : Provisioned) : Work :=
  let old := (s.term t).cls
  let s := s.setTerm t ((s.term t).withValues { v with cls := old })
  if v.cls = old then .quiet s else s.changeClass t v.cls

/-- The Pmax clamp of R15 when Pc lies above the new Pmax. -/
def State.clampIfAbove (s : State) (t : TermId) : State :=
  if (s.term t).pmax < (s.term t).pc then s.clampPower t else s

/-- AMEND (R13 to R15). -/
def carryAmend (body : List Byte) (s : State) : Answer :=
  s.onProvisioned (numAt body 0) fun t =>
    let w := s.storeValues t (provisionedAt body).clamped
    .done (w.andThen (fun s => .quiet (s.clampIfAbove t))).close

/-- An engine's job dropped when it works on the terminal (R114). -/
def dropJobOf (t : TermId) (o : Option Job) : Option Job :=
  match o with
  | some j => if j.term = t then none else some j
  | none => none

/-- The terminal taken out of the modem and of every collection (R16, R114, R88, R124): an engine made idle or a context
removed is a trigger (R80). -/
def State.takeOut (s : State) (t : TermId) : Work :=
  let state := (s.term t).state
  let s := if state = .serving || s.admitted t then s.send (.withdraw t) else s
  let s := s.leaveQueue t
  let s := { s with engines := mapPlaces (dropJobOf t) s.engines }
  let s := s.setStack (s.stack.filter (fun c => c.term ≠ t))
  ⟨s.markStale t, state = .active || state = .suspended⟩

/-- The Sector Monitor's check when a terminal has left a waiting state (R135). -/
def Work.checkClearIf (w : Work) (left : Bool) : Work := if left then w.checkClear else w

/-- RETIRE (R16). -/
def State.retire (s : State) (t : TermId) : State :=
  let r := s.term t
  let w := s.takeOut t
  let w : Work := ⟨(w.st.setTerm t .powerOn).mark t, w.due⟩
  (w.checkClearIf r.state.waiting).close

def carryRetire (body : List Byte) (s : State) : Answer :=
  s.onProvisioned (numAt body 0) fun t => .done (s.retire t)

/-- BAR of a terminal that is not BARRED (R17). -/
def State.bar (s : State) (t : TermId) : State :=
  let r := s.term t
  let w := s.takeOut t
  let w : Work := ⟨(w.st.setTerm t { r with state := .barred, heard := false, missCount := 0, backoff := 0 }).mark t, w.due⟩
  (w.checkClearIf r.state.waiting).close

def carryBar (body : List Byte) (s : State) : Answer :=
  s.onProvisioned (numAt body 0) fun t =>
    if (s.term t).state = .barred then .refuse s .wrongState else .done (s.bar t)

/-- UNBAR of a BARRED terminal (R19). -/
def State.unbar (s : State) (t : TermId) : State :=
  let r := s.term t
  let s := s.setTerm t { r with lossReason := some .forced, lostAt := some s.lastFrame, retries := 0, heard := false,
                                missCount := 0 }
  (Work.trigger ((s.transition t .barred .queued).join t)).close

def carryUnbar (body : List Byte) (s : State) : Answer :=
  s.onProvisioned (numAt body 0) fun t =>
    if (s.term t).state = .barred then .done (s.unbar t) else .refuse s .wrongState

/-- RESTORE NOW of a BACKOFF or HELD terminal in state `a` (R20). -/
def State.requeueNow (s : State) (t : TermId) (a : TermState) : State :=
  let s := s.setTerm t { s.term t with heard := false }
  (Work.trigger ((s.transition t a .queued).join t)).close

/-- RESTORE NOW by the state of the terminal (R20). -/
def State.restoreNow (s : State) (t : TermId) : Answer :=
  match (s.term t).state with
  | .serving => .done (Work.trigger (s.lose t .forced)).close
  | .backoff => .done (s.requeueNow t .backoff)
  | .held => .done (s.requeueNow t .held)
  | .barred => .refuse s .wrongState
  | _ => .done s

def carryRestoreNow (body : List Byte) (s : State) : Answer :=
  s.onProvisioned (numAt body 0) fun t => s.restoreNow t

/-! ### The other requests -/

/-- STATUS (R160). -/
def carryStatus (s : State) : Answer := ⟨s, .ok, s.statusContents⟩

/-- SET SECTOR (R162, R163). -/
def carrySetSector (body : List Byte) (s : State) : Answer :=
  let s := { s with params := (sectorAt body).clamped }
  ⟨s, .ok, s.sectorContents⟩

/-- READ SECTOR (R163). -/
def carryReadSector (s : State) : Answer := ⟨s, .ok, s.sectorContents⟩

/-- SET LADDER (R46). -/
def carrySetLadder (body : List Byte) (s : State) : Answer :=
  let l := ladderAt body
  if l.increasing then ⟨{ s with ladder := l }, .ok, l.contents⟩ else .refuse s .order

/-- HOLD (R90). -/
def carryHold (s : State) : Answer := .done { s with hold := true }

/-- RELEASE (R91): the reply follows the evaluation. -/
def carryRelease (s : State) : Answer := .done (Work.trigger { s with hold := false }).close

/-- READ CHANGES (R166, R167). -/
def carryReadChanges (s : State) : Answer := ⟨s.clearReported, .ok, s.changesContents⟩

/-- READ QUEUE (R168). -/
def carryReadQueue (s : State) : Answer := ⟨s, .ok, s.queueContents⟩

/-- RESTART (R169): the reset follows when the reply has left. -/
def carryRestart (s : State) : Answer := .done s

/-- What each request carries out. -/
def carry (k : ReqKind) (body : List Byte) (s : State) : Answer :=
  match k with
  | .status => carryStatus s
  | .setSector => carrySetSector body s
  | .readSector => carryReadSector s
  | .setLadder => carrySetLadder body s
  | .provision => carryProvision body s
  | .amend => carryAmend body s
  | .retire => carryRetire body s
  | .readTerminal => carryReadTerminal body s
  | .bar => carryBar body s
  | .unbar => carryUnbar body s
  | .restoreNow => carryRestoreNow body s
  | .hold => carryHold s
  | .release => carryRelease s
  | .readChanges => carryReadChanges s
  | .readQueue => carryReadQueue s
  | .restart => carryRestart s

/-! ### The request buffer -/

/-- The reply to the request in the buffer is produced and starts on the line (R158). -/
def State.answer (s : State) (r : Reply) : State := { s with reply := some r }

/-- A frame completes on the control port (R156): the receiver returns to HUNT; an occupied buffer discards the frame, an
empty one takes it and `f` carries it out in the same event (R158). -/
def State.enterBuffer (s : State) (f : ReqFrame) (g : State → State) : State :=
  let s := { s with cpRx := .hunting }
  if s.reqBuf.isSome then s else g { s with reqBuf := some f }

/-- A request with a good CRC: the length check of R159 step 3, then the request; its reply echoes the TAG (R159). -/
def State.takeRequest (s : State) (k : ReqKind) (tag : Byte) (body : List Byte) : State :=
  s.enterBuffer ⟨⟨k.code, tag, body⟩, true⟩ fun s =>
    if body.length ≠ k.bodyLen then s.answer ⟨tag, k.code, .badLength, []⟩
    else
      let a := carry k body s
      a.st.answer ⟨tag, k.code, a.status, a.contents⟩

/-- A frame whose CRC is bad (R157, R159 step 1): BAD_FRAME with TAG 0 and answered kind 0. -/
def State.takeBadFrame (s : State) (f : WireFrame) : State :=
  s.enterBuffer ⟨f, false⟩ fun s => s.answer ⟨0, 0, .badFrame, []⟩

/-- A frame whose KIND is no request kind (R159 step 2, R177): BAD_KIND, answered kind as received. -/
def State.takeBadKind (s : State) (f : WireFrame) : State :=
  s.enterBuffer ⟨f, true⟩ fun s => s.answer ⟨f.tag, f.kind, .badKind, []⟩

/-- A frame that completes on the control port, with its CRC verdict (R156, R159). -/
def State.takeControlFrame (s : State) (f : WireFrame) (crcGood : Bool) : State :=
  if !crcGood then s.takeBadFrame f
  else
    match reqKindOf f.kind with
    | none => s.takeBadKind f
    | some k => s.takeRequest k f.tag f.body

end Sys2Proof.Machine
end

