-- ==== Sys2Proof/Machine/Ports.lean ====
section
/-! DEFINITION. The two receivers byte by byte (R144, R145, R156, R157), the modem messages as completed frames (R146), the
part's millisecond clock (R150), the reset (R169, R170) and the two transmitters (R153, R158). -/

namespace Sys2Proof.Machine

/-! ### A receiver -/

/-- The frame that `LEN` and the bytes collected in BODY make, with its CRC verdict, once the last CRC byte is there
(R144, R145, R172). -/
def Receiver.completed (r : Receiver) : Option (WireFrame × Bool) :=
  match r.bytes with
  | kind :: tag :: rest =>
    if r.bytes.length < r.len + 2 then none
    else
      let f : WireFrame := ⟨kind, tag, rest.take (r.len - 2)⟩
      some (f, crc16 (crcScope f) == wordAt r.bytes r.len)
  | _ => none

/-- One byte taken from the line (R144): the receiver after it, and the frame it completes, if any. A length outside
2..252 discards the frame (R145, R157). -/
def Receiver.take (r : Receiver) (b : Byte) : Receiver × Option (WireFrame × Bool) :=
  match r.phase with
  | .hunt => (if b = syncByte then ⟨.length, 0, [], 0⟩ else r, none)
  | .length => (if lenValid b then ⟨.body, b.toNat, [], 0⟩ else .hunting, none)
  | .body =>
    let r' : Receiver := ⟨.body, r.len, r.bytes ++ [b], 0⟩
    match r'.completed with
    | some f => (.hunting, some f)
    | none => (r', none)

/-- A millisecond on the gap timer, which runs only while a frame is in assembly: more than 5 ms discard the frame (R145,
R157). -/
def Receiver.tick (r : Receiver) : Receiver :=
  if r.phase = .hunt then r
  else if 5 < r.gapMs + 1 then .hunting
  else { r with gapMs := r.gapMs + 1 }

/-! ### Completed modem frames -/

/-- A POLL RESULT at the modem link: a tag above 7 or an outcome code other than RESPONSE and SILENT drops it (R147,
R152). -/
def State.takePollResult (s : State) (tag outcome : Byte) (level : BitVec 16) (errors : Byte) : State :=
  if h : tag.toNat < 8 then
    match pollOutcomeOf outcome level errors with
    | none => s
    | some o => (s.takeOutcome ⟨tag.toNat, h⟩ o).close
  else s

/-- A modem message taken (R146, R148, R151, R152). -/
def State.takeModemCommand (s : State) : Instr → State
  | .frame n slots => s.frameMark n slots.toNat
  | .burst terminal b level errors => s.takeReport terminal b (some (receivedResponse level errors))
  | .miss terminal b => s.takeReport terminal b none
  | .pollResult tag outcome level errors => s.takePollResult tag outcome level errors
  | _ => s

/-- The modem-link receiver returns to HUNT with nothing assembled. -/
def State.mlHunt (s : State) : State := { s with mlRx := .hunting }

/-- The control-port receiver returns to HUNT with nothing assembled. -/
def State.cpHunt (s : State) : State := { s with cpRx := .hunting }

/-- A frame that completes on the modem link with a good CRC (R146): handed on, or dropped silently. -/
def State.takeModemFrame (s : State) (f : WireFrame) : State :=
  match modemCommand f with
  | none => s.mlHunt
  | some c => s.mlHunt.takeModemCommand c

/-- One byte at the modem-link receiver; a frame completed with a bad CRC is discarded silently (R145). -/
def State.takeModemByte (s : State) (b : Byte) : State :=
  match s.mlRx.take b with
  | (r, none) => { s with mlRx := r }
  | (_, some (f, crcGood)) => if crcGood then s.takeModemFrame f else s.mlHunt

/-- One byte at the control-port receiver (R156). -/
def State.takeControlByte (s : State) (b : Byte) : State :=
  match s.cpRx.take b with
  | (r, none) => { s with cpRx := r }
  | (_, some (f, crcGood)) => s.takeControlFrame f crcGood

/-! ### Clock, reset and transmitters -/

/-- A millisecond of the part's own clock (log entry 2): both gap timers and the silence detector, which sets the
modem-silent flag when it reaches 16 ms (R150). -/
def State.tick (s : State) : State :=
  { s with
    cpRx := s.cpRx.tick
    mlRx := s.mlRx.tick
    silenceMs := min (s.silenceMs + 1) 16
    modemSilent := s.modemSilent || decide (16 ≤ s.silenceMs + 1) }

/-- The power-on values of every block with a start cause (R169, R170); the commands waiting and the index of the free
values are the model's own and stay. -/
def State.restarted (s : State) (c : StartCause) : State :=
  { State.reset with startCause := c, pending := s.pending, freeIndex := s.freeIndex }

/-- The reply on the line is the OK to a RESTART (R169). -/
def State.restartReplying (s : State) : Bool :=
  s.reply.any (fun r => r.answered = ReqKind.restart.code && r.status = .ok)

/-- The last byte of the reply leaves: the buffer becomes empty (R158); the OK to a RESTART resets the part in the same
event (R169). With no reply on the line nothing leaves. -/
def State.replyLeaves (s : State) : State :=
  if s.restartReplying then s.restarted .restart
  else if s.reply.isSome then { s with reply := none, reqBuf := none }
  else s

end Sys2Proof.Machine
end

