-- ==== Sys2Proof/Machine/ControlPort.lean ====
section
/-! DEFINITION. The meanings of the control-port commands: the receiver's events, the frames that complete, the requests,
the reply's end, power-on and the reset. -/

namespace Sys2Proof.Machine

/-- What a command answers. -/
abbrev Result := Host.Outcome State Fault Refusal

/-- POWER_ON (R170). -/
def execPowerOn (s : State) : Result := .next (s.restarted .powerOn)

/-- CP_LENGTH_DISCARD (R157): the byte taken; in LENGTH one outside 2..252 discards the frame in assembly. -/
def execCpLengthDiscard (b : Byte) (s : State) : Result := .next (s.takeControlByte b)

/-- CP_GAP_DISCARD (R157): the frame in assembly is discarded and the receiver is in HUNT. -/
def execCpGapDiscard (s : State) : Result := .next s.cpHunt

/-- FRAME_DISCARDED_BUFFER_OCCUPIED (R156): the frame completes; the occupied buffer discards it whatever its CRC. -/
def execFrameDiscardedBufferOccupied (kind tag : Byte) (body : List Byte) (crcGood : Bool) (s : State) : Result :=
  .next (s.takeControlFrame ⟨kind, tag, body⟩ crcGood)

/-- BAD_FRAME (R157, R159 step 1). -/
def execBadFrame (kind tag : Byte) (body : List Byte) (s : State) : Result :=
  .next (s.takeControlFrame ⟨kind, tag, body⟩ false)

/-- BAD_KIND (R159 step 2). -/
def execBadKind (kind tag : Byte) (body : List Byte) (s : State) : Result :=
  .next (s.takeControlFrame ⟨kind, tag, body⟩ true)

/-- STATUS (R160). -/
def execStatus (tag : Byte) (body : List Byte) (s : State) : Result := .next (s.takeRequest .status tag body)

/-- SET_SECTOR (R162). -/
def execSetSector (tag : Byte) (body : List Byte) (s : State) : Result := .next (s.takeRequest .setSector tag body)

/-- READ_SECTOR (R163). -/
def execReadSector (tag : Byte) (body : List Byte) (s : State) : Result := .next (s.takeRequest .readSector tag body)

/-- SET_LADDER (R46). -/
def execSetLadder (tag : Byte) (body : List Byte) (s : State) : Result := .next (s.takeRequest .setLadder tag body)

/-- PROVISION (R10). -/
def execProvision (tag : Byte) (body : List Byte) (s : State) : Result := .next (s.takeRequest .provision tag body)

/-- AMEND (R13). -/
def execAmend (tag : Byte) (body : List Byte) (s : State) : Result := .next (s.takeRequest .amend tag body)

/-- RETIRE (R16). -/
def execRetire (tag : Byte) (body : List Byte) (s : State) : Result := .next (s.takeRequest .retire tag body)

/-- BAR (R17). -/
def execBar (tag : Byte) (body : List Byte) (s : State) : Result := .next (s.takeRequest .bar tag body)

/-- UNBAR (R19). -/
def execUnbar (tag : Byte) (body : List Byte) (s : State) : Result := .next (s.takeRequest .unbar tag body)

/-- RESTORE_NOW (R20). -/
def execRestoreNow (tag : Byte) (body : List Byte) (s : State) : Result := .next (s.takeRequest .restoreNow tag body)

/-- READ_TERMINAL (R9). -/
def execReadTerminal (tag : Byte) (body : List Byte) (s : State) : Result :=
  .next (s.takeRequest .readTerminal tag body)

/-- HOLD (R90). -/
def execHold (tag : Byte) (body : List Byte) (s : State) : Result := .next (s.takeRequest .hold tag body)

/-- RELEASE (R91). -/
def execRelease (tag : Byte) (body : List Byte) (s : State) : Result := .next (s.takeRequest .release tag body)

/-- READ_CHANGES (R166). -/
def execReadChanges (tag : Byte) (body : List Byte) (s : State) : Result := .next (s.takeRequest .readChanges tag body)

/-- READ_QUEUE (R168). -/
def execReadQueue (tag : Byte) (body : List Byte) (s : State) : Result := .next (s.takeRequest .readQueue tag body)

/-- RESTART (R169): answered OK; the reset follows when the reply has left. -/
def execRestart (tag : Byte) (body : List Byte) (s : State) : Result := .next (s.takeRequest .restart tag body)

/-- REPLY_SENT (R158). -/
def execReplySent (s : State) : Result := .next s.replyLeaves

/-- RESTART_RESET (R169): the reset in the event of the last byte of RESTART's OK leaving the line; with no such reply on
the line there is no such event and nothing changes. -/
def execRestartReset (s : State) : Result :=
  .next (if s.restartReplying then s.restarted .restart else s)

/-- CP_SYNC_FOUND (R156, R144): the bytes taken by the control-port receiver in line order. -/
def execCpSyncFound (bytes : List Byte) (s : State) : Result := .next (bytes.foldl State.takeControlByte s)

end Sys2Proof.Machine
end

