-- ==== Sys2Proof/Machine/ModemLink.lean ====
section
/-! DEFINITION. The meanings of the modem-link commands: the receiver's events, the four inbound messages, the silence
detector and the transmitter. -/

namespace Sys2Proof.Machine

/-- ML_SYNC_FOUND (R144): the bytes taken by the modem-link receiver in line order. -/
def execMlSyncFound (bytes : List Byte) (s : State) : Result := .next (bytes.foldl State.takeModemByte s)

/-- ML_LENGTH_DISCARD (R145): the byte taken; in LENGTH one outside 2..252 discards the frame silently. -/
def execMlLengthDiscard (b : Byte) (s : State) : Result := .next (s.takeModemByte b)

/-- ML_GAP_DISCARD (R145): the frame in assembly is discarded silently and the receiver is in HUNT. -/
def execMlGapDiscard (s : State) : Result := .next s.mlHunt

/-- ML_CRC_DISCARD (R145): a frame completes with a CRC mismatch and is discarded silently. -/
def execMlCrcDiscard (s : State) : Result := .next s.mlHunt

/-- ML_FRAME_DROPPED (R146): a frame of a wrong KIND, or of a wrong body length for its kind, is dropped silently. -/
def execMlFrameDropped (kind tag : Byte) (body : List Byte) (s : State) : Result :=
  .next (s.takeModemFrame ⟨kind, tag, body⟩)

/-- FRAME (R148, R149). -/
def execFrame (n : FrameNo) (slots : Byte) (s : State) : Result := .next (s.mlHunt.frameMark n slots.toNat)

/-- BURST (R147, R151). -/
def execBurst (terminal : Byte) (b : FrameNo) (level : BitVec 16) (errors : Byte) (s : State) : Result :=
  .next (s.mlHunt.takeReport terminal b (some (receivedResponse level errors)))

/-- MISS (R147, R151). -/
def execMiss (terminal : Byte) (b : FrameNo) (s : State) : Result := .next (s.mlHunt.takeReport terminal b none)

/-- POLL_RESULT (R147, R152, R122). -/
def execPollResult (tag outcome : Byte) (level : BitVec 16) (errors : Byte) (s : State) : Result :=
  .next (s.mlHunt.takePollResult tag outcome level errors)

/-- MODEM_SILENT (R150): the detector's time has reached 16 ms. -/
def execModemSilent (s : State) : Result := .next { s with modemSilent := true, silenceMs := 16 }

/-- OUTBOUND_MESSAGE_SENT (R153): the message being sent leaves the list and the next one starts. -/
def execOutboundMessageSent (s : State) : Result := .next { s with outbox := s.outbox.tail }

end Sys2Proof.Machine
end

