-- ==== Sys2Proof/Machine/Events.lean ====
section
/-! DEFINITION. The meanings of the rows that end an operation begun earlier. A frame mark does all of these in its own
event (R57, R103, R106, R118, R137); as a command each acts exactly where its condition stands in the state, and changes
nothing elsewhere (log entry 6). -/

namespace Sys2Proof.Machine

/-- COMMAND_EFFECTIVE (R57). -/
def execCommandEffective (t : TermId) (s : State) : Result := .next (s.commandEffective t)

/-- AMBIGUITY_WINDOW_CLOSE (R57). -/
def execAmbiguityWindowClose (t : TermId) (s : State) : Result := .next (s.closeWindow t)

/-- BACKOFF_EXPIRY (R103). -/
def execBackoffExpiry (t : TermId) (s : State) : Result :=
  .next (if s.backoffOver t then (s.expireBackoff t).close else s)

/-- RAMP_TICK (R107, R108). -/
def execRampTick (e : EngineId) (s : State) : Result := .next (s.tickIfDue e)

/-- POLL_TIMEOUT (R118). -/
def execPollTimeout (k : PollTag) (s : State) : Result :=
  .next (if (s.poll k).any (fun p => p.countdown = 0) then (s.timeoutIfDue k).close else s)

/-- LOSS_WINDOW_EXPIRY (R137). -/
def execLossWindowExpiry (s : State) : Result := .next s.expireLosses

end Sys2Proof.Machine
end

