-- ==== Sys2Proof/Machine/Dispatch.lean ====
section
/-! DEFINITION. One arm per command, each a direct call of its meaning. -/

namespace Sys2Proof.Machine

def exec (i : Instr) (s : State) : Host.Outcome State Fault Refusal :=
  match i with
  | .powerOn => Sys2Proof.Machine.execPowerOn s
  | .cpLengthDiscard b => Sys2Proof.Machine.execCpLengthDiscard b s
  | .cpGapDiscard => Sys2Proof.Machine.execCpGapDiscard s
  | .frameDiscardedBufferOccupied kind tag body crcGood => Sys2Proof.Machine.execFrameDiscardedBufferOccupied kind tag body crcGood s
  | .badFrame kind tag body => Sys2Proof.Machine.execBadFrame kind tag body s
  | .badKind kind tag body => Sys2Proof.Machine.execBadKind kind tag body s
  | .status tag body => Sys2Proof.Machine.execStatus tag body s
  | .setSector tag body => Sys2Proof.Machine.execSetSector tag body s
  | .readSector tag body => Sys2Proof.Machine.execReadSector tag body s
  | .setLadder tag body => Sys2Proof.Machine.execSetLadder tag body s
  | .provision tag body => Sys2Proof.Machine.execProvision tag body s
  | .amend tag body => Sys2Proof.Machine.execAmend tag body s
  | .retire tag body => Sys2Proof.Machine.execRetire tag body s
  | .bar tag body => Sys2Proof.Machine.execBar tag body s
  | .unbar tag body => Sys2Proof.Machine.execUnbar tag body s
  | .restoreNow tag body => Sys2Proof.Machine.execRestoreNow tag body s
  | .readTerminal tag body => Sys2Proof.Machine.execReadTerminal tag body s
  | .hold tag body => Sys2Proof.Machine.execHold tag body s
  | .release tag body => Sys2Proof.Machine.execRelease tag body s
  | .readChanges tag body => Sys2Proof.Machine.execReadChanges tag body s
  | .readQueue tag body => Sys2Proof.Machine.execReadQueue tag body s
  | .restart tag body => Sys2Proof.Machine.execRestart tag body s
  | .replySent => Sys2Proof.Machine.execReplySent s
  | .restartReset => Sys2Proof.Machine.execRestartReset s
  | .mlLengthDiscard b => Sys2Proof.Machine.execMlLengthDiscard b s
  | .mlGapDiscard => Sys2Proof.Machine.execMlGapDiscard s
  | .mlCrcDiscard => Sys2Proof.Machine.execMlCrcDiscard s
  | .mlFrameDropped kind tag body => Sys2Proof.Machine.execMlFrameDropped kind tag body s
  | .frame n slots => Sys2Proof.Machine.execFrame n slots s
  | .burst terminal b level errors => Sys2Proof.Machine.execBurst terminal b level errors s
  | .miss terminal b => Sys2Proof.Machine.execMiss terminal b s
  | .pollResult tag outcome level errors => Sys2Proof.Machine.execPollResult tag outcome level errors s
  | .modemSilent => Sys2Proof.Machine.execModemSilent s
  | .commandEffective t => Sys2Proof.Machine.execCommandEffective t s
  | .ambiguityWindowClose t => Sys2Proof.Machine.execAmbiguityWindowClose t s
  | .backoffExpiry t => Sys2Proof.Machine.execBackoffExpiry t s
  | .rampTick e => Sys2Proof.Machine.execRampTick e s
  | .pollTimeout k => Sys2Proof.Machine.execPollTimeout k s
  | .lossWindowExpiry => Sys2Proof.Machine.execLossWindowExpiry s
  | .outboundMessageSent => Sys2Proof.Machine.execOutboundMessageSent s
  | .mlSyncFound bytes => Sys2Proof.Machine.execMlSyncFound bytes s
  | .cpSyncFound bytes => Sys2Proof.Machine.execCpSyncFound bytes s

end Sys2Proof.Machine
end

