-- ==== Sys2Proof/Safety.lean ====
section
/-! DEFINITION. What a sound state of the SX64 is, in the laws the manual states of the whole part. Each law is a decidable
proposition about one state. -/

namespace Sys2Proof.Machine

/-- R6: a provisioned terminal is in the queue exactly when QUEUED, held by an engine exactly when ACTIVE, on the stack
exactly when SUSPENDED, and appears at most once across all three. -/
abbrev CollectionsLaw (s : State) : Prop :=
  (∀ t : TermId, t ∈ s.queue ↔ (s.term t).state = .queued) ∧
  (∀ t : TermId, (∃ e : EngineId, (s.job e).any (fun j => j.term = t)) ↔ (s.term t).state = .active) ∧
  (∀ t : TermId, t ∈ s.stack.map Context.term ↔ (s.term t).state = .suspended) ∧
  s.queue.Nodup ∧ (s.stack.map Context.term).Nodup ∧
  (∀ e e' : EngineId, (s.job e).any (fun j => (s.job e').any (fun j' => j.term = j'.term)) → e = e')

/-- R73: no terminal of a larger class stands before one of a smaller class, and within a class no unheard one before a
heard one. -/
abbrev QueueOrdered (s : State) : Prop :=
  s.queue.Pairwise (fun t u => (s.term t).group ≤ (s.term u).group)

/-- R135: the sector mode is CLEAR exactly when no provisioned terminal waits or is worked on. -/
abbrev ModeLaw (s : State) : Prop := s.mode = .clear ↔ s.someWaiting = false

/-- R55: Pc is the pending command's value while one is pending and Pe while none is; Pc lies within 0..Pmax and F within
0..240. -/
abbrev PowerLaw (s : State) : Prop :=
  ∀ t : TermId, (s.term t).pc = ((s.term t).pendingCmd.map PowerCmd.value).getD (s.term t).pe ∧
    (s.term t).pc ≤ (s.term t).pmax ∧ (s.term t).fade ≤ 240

/-- R1, R2: the provisioned values of every record lie in their ranges (the class, Pmax and the start power in every state,
the others once provisioned). -/
abbrev ProvisionedLaw (s : State) : Prop :=
  ∀ t : TermId, (s.term t).cls ≤ 3 ∧ (s.term t).pmax ≤ 80 ∧ (s.term t).startPower ≤ (s.term t).pmax ∧
    (s.term t).su ≤ 240 ∧ (s.term t).sd ≤ 240 ∧
    ((s.term t).state ≠ .unused →
      -440 ≤ (s.term t).refLevel ∧ (s.term t).refLevel ≤ -120 ∧ 1 ≤ (s.term t).depth ∧ (s.term t).depth ≤ 8)

/-- R1: the profiles, Pe, the value of a pending command, the loss power and the found power lie in their ranges. -/
abbrev RecordLaw (s : State) : Prop :=
  ∀ t : TermId, (s.term t).up ≤ 7 ∧ (s.term t).down ≤ 7 ∧ (s.term t).pe ≤ 80 ∧
    (s.term t).pendingCmd.all (fun c => c.value ≤ 80) = true ∧ (s.term t).lossPower.all (fun p => p ≤ 80) = true ∧
    (s.term t).foundPower.all (fun p => p ≤ 80) = true

/-- R4: the backoff remaining is above 0 exactly in BACKOFF, and the counters lie in their ranges. -/
abbrev CounterLaw (s : State) : Prop :=
  ∀ t : TermId, (0 < (s.term t).backoff ↔ (s.term t).state = .backoff) ∧ (s.term t).backoff ≤ 65535 ∧
    (s.term t).missCount ≤ 15 ∧ (s.term t).retries ≤ 15 ∧ (s.term t).holdOff ≤ 65535

/-- R161: every sector parameter lies in its range, with Fs ≤ Cs and Lf ≥ Ls. -/
abbrev SectorLaw (s : State) : Prop :=
  let p := s.params
  (1 ≤ p.alpha ∧ p.alpha ≤ 8) ∧ p.allowance ≤ 40 ∧ (8 ≤ p.ratio ∧ p.ratio ≤ 32) ∧ p.errLimit ≤ 63 ∧
  (2 ≤ p.missLimit ∧ p.missLimit ≤ 15) ∧ (1 ≤ p.trackStep ∧ p.trackStep ≤ 8) ∧ p.deadband ≤ 8 ∧
  (1 ≤ p.latency ∧ p.latency ≤ 8) ∧ (2 ≤ p.coarseStep ∧ p.coarseStep ≤ 16) ∧
  (1 ≤ p.fineStep ∧ p.fineStep ≤ 4 ∧ p.fineStep ≤ p.coarseStep) ∧ (1 ≤ p.limitPolls ∧ p.limitPolls ≤ 15) ∧
  (1 ≤ p.confirmCount ∧ p.confirmCount ≤ 15) ∧ p.retryLimit ≤ 15 ∧
  (8 ≤ p.backoffBase ∧ p.backoffBase ≤ 4096) ∧ (1 ≤ p.slowStep ∧ p.slowStep ≤ 4) ∧
  (p.slowStep ≤ p.fastStep ∧ p.fastStep ≤ 16) ∧ (1 ≤ p.rampInterval ∧ p.rampInterval ≤ 64) ∧
  (1 ≤ p.slotsPerFrame ∧ p.slotsPerFrame ≤ 4) ∧ (16 ≤ p.windowLength ∧ p.windowLength ≤ 4096) ∧
  (2 ≤ p.quorum ∧ p.quorum ≤ 64) ∧ p.holdOffLoad ≤ 65535

/-- R45: the thresholds are strictly increasing and lie in 0..240, and H lies in 0..40. -/
abbrev LadderLaw (s : State) : Prop :=
  s.ladder.increasing = true ∧ (∀ x ∈ s.ladder.thresholds.toList, x ≤ 240) ∧ s.ladder.hysteresis ≤ 40

/-- R87: the stack never holds more than 8 contexts. -/
abbrev StackLaw (s : State) : Prop := s.stack.length ≤ 8

/-- R87, R113: every context on the stack was set aside in COARSE, FINE or CONFIRM. -/
abbrev ContextLaw (s : State) : Prop := ∀ c ∈ s.stack, c.phase.searching = true

/-- R80: outside HOLD and OUTAGE either all four engines hold jobs, or the queue and the stack are both empty. -/
abbrev FillLaw (s : State) : Prop :=
  s.hold = false → s.mode ≠ .outage → (∀ e : EngineId, (s.job e).isSome) ∨ (s.queue = [] ∧ s.stack = [])

/-- R89: the preempt-pending flag is set exactly while its condition holds. -/
abbrev FlagLaw (s : State) : Prop := s.preemptPending = s.preemptBlocked

/-- R141: in OUTAGE no engine holds a job and the stack is empty. -/
abbrev OutageLaw (s : State) : Prop := s.mode = .outage → (∀ e : EngineId, s.job e = none) ∧ s.stack = []

/-- R136, R138: the loss window holds at most 64 entries, each with a remaining life of 1..4096. -/
abbrev WindowLaw (s : State) : Prop :=
  s.lossWindow.length < 64 ∧ ∀ l ∈ s.lossWindow, 1 ≤ l ∧ l ≤ 4096

/-- R156, R158: the request buffer is occupied exactly while a reply is being sent. -/
abbrev BufferLaw (s : State) : Prop := s.reqBuf.isSome = s.reply.isSome

/-- R92, R28: what a job holds in each phase. A search gathers a gate; SETTLE has its ramp and admit frame and no gate;
VERIFY has a gate and the admit frame and no ramp; an admitted job waits on no poll. -/
def Job.shaped (j : Job) : Bool :=
  match j.phase with
  | .settle => j.gate.isNone && j.ramp.isSome && j.admitFrame.isSome && j.pollInFlight.isNone
  | .verify => j.gate.isSome && j.ramp.isNone && j.admitFrame.isSome && j.pollInFlight.isNone
  | _ => j.gate.isSome && j.ramp.isNone && j.admitFrame.isNone

/-- R92: every job is shaped by its phase. -/
abbrev JobLaw (s : State) : Prop := ∀ e : EngineId, (s.job e).all Job.shaped = true

/-- The laws of the whole part together. -/
abbrev Sound (s : State) : Prop :=
  CollectionsLaw s ∧ QueueOrdered s ∧ ModeLaw s ∧ PowerLaw s ∧ ProvisionedLaw s ∧ RecordLaw s ∧ CounterLaw s ∧
  SectorLaw s ∧ LadderLaw s ∧ StackLaw s ∧ ContextLaw s ∧ FillLaw s ∧ FlagLaw s ∧ OutageLaw s ∧ WindowLaw s ∧ BufferLaw s ∧ JobLaw s

/-! ### The words of the statements -/

/-- The request command of a kind. -/
def ReqKind.command (k : ReqKind) (tag : Byte) (body : List Byte) : Instr :=
  match k with
  | .status => .status tag body
  | .setSector => .setSector tag body
  | .readSector => .readSector tag body
  | .setLadder => .setLadder tag body
  | .provision => .provision tag body
  | .amend => .amend tag body
  | .retire => .retire tag body
  | .readTerminal => .readTerminal tag body
  | .bar => .bar tag body
  | .unbar => .unbar tag body
  | .restoreNow => .restoreNow tag body
  | .hold => .hold tag body
  | .release => .release tag body
  | .readChanges => .readChanges tag body
  | .readQueue => .readQueue tag body
  | .restart => .restart tag body

/-- The state once a request of good CRC stands in the request buffer and its reply has been produced (R156, R158): the
receiver hunts, and nothing else differs. -/
def State.replied (s : State) (k : ReqKind) (tag : Byte) (body : List Byte) (st : Status) (contents : List Byte) : State :=
  { s with
    cpRx := .hunting
    reqBuf := some ⟨⟨k.code, tag, body⟩, true⟩
    reply := some ⟨tag, k.code, st, contents⟩ }

/-- The commands that reach the part from the modem link, from its clock, or as the end of an operation begun earlier. -/
def modemSide : Instr → Bool
  | .mlLengthDiscard _ | .mlGapDiscard | .mlCrcDiscard | .mlFrameDropped _ _ _ | .frame _ _ | .burst _ _ _ _
  | .miss _ _ | .pollResult _ _ _ _ | .modemSilent | .commandEffective _ | .ambiguityWindowClose _
  | .backoffExpiry _ | .rampTick _ | .pollTimeout _ | .lossWindowExpiry | .outboundMessageSent | .mlSyncFound _ => true
  | .powerOn | .cpLengthDiscard _ | .cpGapDiscard | .frameDiscardedBufferOccupied _ _ _ _ | .badFrame _ _ _
  | .badKind _ _ _ | .status _ _ | .setSector _ _ | .readSector _ _ | .setLadder _ _ | .provision _ _ | .amend _ _
  | .retire _ _ | .bar _ _ | .unbar _ _ | .restoreNow _ _ | .readTerminal _ _ | .hold _ _ | .release _ _
  | .readChanges _ _ | .readQueue _ _ | .restart _ _ | .replySent | .restartReset | .cpSyncFound _ => false

/-- Two records differ at most in the state and in the heard flag, the two fields a grant, a resume and a preemption
write (R82, R83, R86). -/
def TermRec.sameButPlace (r r' : TermRec) : Prop := r' = { r with state := r'.state, heard := r'.heard }

/-- The buffer, the receiver and the reply after a request of good CRC (R156, R158). -/
def State.answers (v : State) (k : ReqKind) (tag : Byte) (body : List Byte) (st : Status) (contents : List Byte) : Prop :=
  v.cpRx = .hunting ∧ v.reqBuf = some ⟨⟨k.code, tag, body⟩, true⟩ ∧ v.reply = some ⟨tag, k.code, st, contents⟩

/-- The control port is as before: receiver, buffer and reply. -/
def State.samePort (s v : State) : Prop := v.cpRx = s.cpRx ∧ v.reqBuf = s.reqBuf ∧ v.reply = s.reply

/-- The fields no search, queue or traffic work writes are as before. -/
def State.sameRest (s v : State) : Prop :=
  v.startCause = s.startCause ∧ v.params = s.params ∧ v.ladder = s.ladder ∧ v.hold = s.hold ∧
  v.lastFrame = s.lastFrame ∧ v.modemSilent = s.modemSilent ∧ v.silenceMs = s.silenceMs ∧ v.cursor = s.cursor ∧
  v.pending = s.pending ∧ v.freeIndex = s.freeIndex

/-- The part of `v` that the arbiter writes is what the end of an event makes of the work `w`: the evaluation, if one is due,
and the preempt-pending flag (R80 to R89). -/
def State.closedFrom (v : State) (w : Work) : Prop :=
  v.terms = w.close.terms ∧ v.marks = w.close.marks ∧ v.queue = w.close.queue ∧ v.stack = w.close.stack ∧
  v.serial = w.close.serial ∧ v.engines = w.close.engines ∧ v.preemptPending = w.close.preemptPending

/-- From `s` to `v` the terminal `t` with the record `r` (QUEUED, unheard) has joined the queue at the end of its group,
the sector has left CLEAR, and the arbiter has evaluated, which it skips under HOLD and in OUTAGE (R74, R80, R134): there the
queue is the one before with `t` put in after every terminal of its class or a smaller one. -/
def State.joined (s v : State) (t : TermId) (r : TermRec) : Prop :=
  (∃ st ∈ [TermState.queued, TermState.active, TermState.suspended], v.term t = { r with state := st }) ∧
  v.marked t = true ∧
  v.mode = (if s.mode = .clear then .degraded else s.mode) ∧
  v.sectorMark = (s.sectorMark || decide (s.mode = .clear)) ∧
  v.polls = s.polls ∧
  (∀ u, u ≠ t → (s.term u).sameButPlace (v.term u)) ∧
  (s.hold = true ∨ s.mode = .outage →
    v.queue = s.queue.takeWhile (fun u => ((s.setTerm t r).term u).cls ≤ r.cls) ++
      t :: s.queue.dropWhile (fun u => ((s.setTerm t r).term u).cls ≤ r.cls)) ∧
  v.closedFrom (.trigger { ((s.setTerm t r).mark t).joinEnd t with
    mode := if s.mode = .clear then .degraded else s.mode })

/-- From `s` to `v` the terminal `t` has left the modem and every collection, its polls are stale, and the arbiter has
evaluated where an engine or a stack place became free (R16, R17, R114, R88, R124, R135). -/
def State.takenOut (s v : State) (t : TermId) : Prop :=
  t ∉ v.queue ∧ (∀ e j, v.job e = some j → j.term ≠ t) ∧ (∀ c ∈ v.stack, c.term ≠ t) ∧
  (∀ k, v.poll k = (s.poll k).map (fun p => { p with stale := p.stale || decide (p.term = t) })) ∧
  v.outbox = s.outbox ++ (if (s.term t).state = .serving ∨ s.admitted t = true then [.withdraw t] else []) ∧
  v.marked t = true ∧ v.lossWindow = s.lossWindow ∧
  v.mode = (if (s.term t).state.waiting = true ∧ ∀ u, u ≠ t → (s.term u).state.waiting = false then .clear else s.mode) ∧
  (∀ u, u ≠ t → (s.term u).sameButPlace (v.term u)) ∧
  v.sectorMark = (s.sectorMark || decide (v.mode ≠ s.mode)) ∧
  v.closedFrom
    ⟨{ s with
        terms := (s.setTerm t (v.term t)).terms
        marks := (s.mark t).marks
        queue := s.queue.filter (· ≠ t)
        stack := s.stack.filter (fun c => c.term ≠ t)
        engines := mapPlaces (dropJobOf t) s.engines
        mode := v.mode },
      decide ((s.term t).state = .active ∨ (s.term t).state = .suspended ∨ (s.mode = .outage ∧ v.mode = .clear))⟩

/-- From `s` to `v` the job `j` of engine `e` is exhausted, its terminal's record standing at `r` (R101, R102): the retries
raised, BACKOFF with its frames or HELD, WITHDRAW for an admitted job, the job dropped, and the arbiter has evaluated. -/
def State.exhausted (s v : State) (e : EngineId) (j : Job) (r : TermRec) : Prop :=
  (min (r.retries + 1) 15 ≤ s.params.retryLimit → v.term j.term = { r with
    state := .backoff, retries := min (r.retries + 1) 15
    backoff := min (s.params.backoffBase * 2 ^ (min (min (r.retries + 1) 15 - 1) 5)) 65535 }) ∧
  (s.params.retryLimit < min (r.retries + 1) 15 →
    v.term j.term = { r with state := .held, retries := min (r.retries + 1) 15 }) ∧
  v.outbox = s.outbox ++ (if j.phase = .settle ∨ j.phase = .verify then [.withdraw j.term] else []) ∧
  v.marked j.term = true ∧ v.mode = s.mode ∧ v.sectorMark = s.sectorMark ∧ v.lossWindow = s.lossWindow ∧
  (∀ e' j', v.job e' = some j' → j'.term ≠ j.term) ∧ (∀ u, u ≠ j.term → (s.term u).sameButPlace (v.term u)) ∧
  v.closedFrom (.trigger { s with
    terms := (s.setTerm j.term (v.term j.term)).terms, marks := (s.mark j.term).marks
    engines := (s.setJob e none).engines }) ∧
  s.sameRest v ∧ s.samePort v ∧ v.mlRx = .hunting

/-- A poll of tag `k` waits for the job `j` of engine `e`, which gathers the gate `g` (R123): the entry is the job's, not
stale, and the job searches. -/
def State.awaits (s : State) (k : PollTag) (e : EngineId) (j : Job) (g : Gate) : Prop :=
  (∃ p, s.poll k = some p ∧ p.owner = .engine e j.serial ∧ p.stale = false) ∧
  s.job e = some j ∧ j.phase.searching = true ∧ j.gate = some g

/-- The terminal `t` is held by engine `e` with the job `j`, and reports of it reach that engine (R151). -/
def State.holds (s : State) (t : TermId) (e : EngineId) (j : Job) : Prop :=
  (s.term t).state = .active ∧ s.engineOf t = some e ∧ s.job e = some j

end Sys2Proof.Machine
end

