-- ==== Sys2Proof/Certificates/Slice0/Obligations.lean ====
section
/-! DEFINITION. The statements for the provers. Each is listed in OBLIGATIONS.json with the rules it comes from. -/

open Sys2Proof Sys2Proof.Machine

/-! ### Steps, reset, start -/

/-- The command at the front of the queue is carried out on the state with the rest of the queue (R146, R158). -/
def Obligations.StepRunsFrontCommand : Prop :=
  ∀ (c : Instr) (rest : List Instr) (s : State),
    s.pending = c :: rest → step s = exec c { s with pending := rest }

/-- With no command waiting a step is one millisecond of the part's own clock: the model's choice, log entry 2. The
gap timers run in LENGTH and BODY (R145, R157), the silence detector sets its flag at 16 ms (R150), nothing else
moves. -/
def Obligations.IdleStepIsAMillisecond : Prop :=
  ∀ s : State, s.pending = [] →
    step s = .next { s with
      cpRx := if s.cpRx.phase = .hunt then s.cpRx
        else if 5 ≤ s.cpRx.gapMs then ⟨.hunt, 0, [], 0⟩ else { s.cpRx with gapMs := s.cpRx.gapMs + 1 }
      mlRx := if s.mlRx.phase = .hunt then s.mlRx
        else if 5 ≤ s.mlRx.gapMs then ⟨.hunt, 0, [], 0⟩ else { s.mlRx with gapMs := s.mlRx.gapMs + 1 }
      silenceMs := min (s.silenceMs + 1) 16
      modemSilent := s.modemSilent || decide (15 ≤ s.silenceMs) }

/-- The whole of a frame mark (R57, R61, R103, R106, R118, R137, R148, R149): every count is lowered and the power
commands are treated, in the state `c`; then the rows of the ends now due run one after another as if under HOLD,
BACKOFF_EXPIRY of the spent backoffs, RAMP_TICK of each engine, POLL_TIMEOUT of each tag; then one evaluation where an
end asked for it; then the slots. The ramp POWERs leave in engine order. The order of the ends and of the slip is the
model's reading (log entries 13 and 15); the order of the expiries and that of timeouts' messages are free (log
entries 7 and 8); the frame the latest command counts from is log entry 4, the receiver's HUNT log entry 9. -/
def Obligations.FrameMarkRunsItsEnds : Prop :=
  ∀ (n : FrameNo) (slots : Byte) (s : State) (slip : Bool) (pull : FrameNo → FrameNo),
    slip = decide (n ≠ s.lastFrame + 1) →
    (∀ f, pull f = if 1 ≤ (f - n).toNat ∧ (f - n).toNat ≤ 32767 then n else f) →
    ∃ (c w u : State) (expired : List TermId) (sent : List OutMsg),
      c = { s with
        lastFrame := n, modemSilent := false, silenceMs := 0, mlRx := ⟨.hunt, 0, [], 0⟩, hold := true
        lossWindow := (s.lossWindow.map (· - 1)).filter (· ≠ 0), terms := c.terms, engines := c.engines, polls := c.polls
        pending := expired.map Instr.backoffExpiry ++ [0, 1, 2, 3].map Instr.rampTick ++
          [0, 1, 2, 3, 4, 5, 6, 7].map Instr.pollTimeout } ∧
      (∀ t, ∃ p a, c.term t = { s.term t with
          holdOff := (s.term t).holdOff - 1
          backoff := if (s.term t).state = .backoff then (s.term t).backoff - 1 else (s.term t).backoff
          pe := if p = none then ((s.term t).pendingCmd.map PowerCmd.value).getD (s.term t).pe else (s.term t).pe
          pendingCmd := p, ambigUntil := a } ∧
        p = (if slip then none else (s.term t).pendingCmd.filter (fun d => d.effect ≠ n)) ∧
        a = (if slip then none else (s.term t).ambigUntil.filter (fun f => f ≠ n))) ∧
      (∀ e, c.job e = (s.job e).map (fun j => { j with
        ramp := j.ramp.map (fun rp => { rp with tick := rp.tick - 1 })
        admitFrame := if slip ∧ j.phase = .settle then j.admitFrame.map pull else j.admitFrame
        gate := if slip ∧ j.phase = .verify then j.gate.map (fun g => { g with countFrom := g.countFrom.map pull }) else j.gate
        cmdFrame := if slip ∧ j.phase.searching = false then some n else j.cmdFrame })) ∧
      (∀ k, c.poll k = (s.poll k).map (fun p => { p with countdown := p.countdown - 1 })) ∧
      expired.Nodup ∧ (∀ t, t ∈ expired ↔ (c.term t).state = .backoff ∧ (c.term t).backoff = 0) ∧
      Host.Core.run Sys2Proof.core c.pending.length c = .next w ∧
      w.outbox = s.outbox ++ w.outbox.drop s.outbox.length ∧ sent.Perm (w.outbox.drop s.outbox.length) ∧
      ((w.outbox.drop s.outbox.length).filter (fun m => match m with | .power _ _ _ => true | _ => false)).Sublist sent ∧
      u = Work.close ⟨{ w with hold := s.hold, pending := s.pending, outbox := s.outbox ++ sent },
        decide (expired ≠ [] ∨ ∃ e, (c.job e).isSome = true ∧ w.job e = none)⟩ ∧
      exec (.frame n slots) s = .next { u.allocate (min slots.toNat 4) with freeIndex := s.freeIndex + 1 }

/-- Every block's power-on values, spelled out (R1, R45, R161, R169, R170). POWER_ON gives them and the start cause
POWER_ON (R170). The last byte of a reply empties the buffer (R158); that of RESTART's OK resets the part, start cause
RESTART (R169). That the commands waiting and the index of the free values stay, and that REPLY_SENT and RESTART_RESET
both stand for that last byte, is the model's choice (log entries 1, 5 and 10). -/
def Obligations.ResetsAndReplies : Prop :=
  ((∀ t, State.reset.term t =
    { state := .unused, cls := 0, refLevel := 0, su := 0, sd := 0, pmax := 0, startPower := 0, depth := 0, pc := 0,
      pe := 0, pendingCmd := none, ambigUntil := none, fade := 0, up := 0, down := 0, holdOff := 0, missCount := 0,
      heard := false, retries := 0, backoff := 0, lossPower := none, foundPower := none, lostAt := none,
      lossReason := none }) ∧
  State.reset.queue = [] ∧ State.reset.stack = [] ∧ State.reset.serial = 0 ∧ State.reset.hold = false ∧
  State.reset.preemptPending = false ∧ (∀ e, State.reset.job e = none) ∧ (∀ k, State.reset.poll k = none) ∧
  State.reset.cursor = 0 ∧ State.reset.mode = .clear ∧ State.reset.lossWindow = [] ∧
  State.reset.mlRx = ⟨.hunt, 0, [], 0⟩ ∧ State.reset.lastFrame = 0 ∧ State.reset.modemSilent = false ∧
  State.reset.silenceMs = 0 ∧ State.reset.outbox = [] ∧
  State.reset.params =
    { alpha := 4, allowance := 8, ratio := 16, errLimit := 6, missLimit := 4, trackStep := 2, deadband := 2,
      latency := 3, coarseStep := 8, fineStep := 1, limitPolls := 3, confirmCount := 3, retryLimit := 4,
      backoffBase := 200, slowStep := 1, fastStep := 6, rampInterval := 4, slotsPerFrame := 2, sweepOn := true,
      windowLength := 1000, quorum := 8, holdOffLoad := 500 } ∧
  State.reset.ladder.thresholds.toList = [20, 36, 48, 60, 72, 84, 96, 108] ∧ State.reset.ladder.hysteresis = 8 ∧
  State.reset.cpRx = ⟨.hunt, 0, [], 0⟩ ∧ State.reset.reqBuf = none ∧ State.reset.reply = none ∧
  State.reset.startCause = .powerOn ∧ (∀ t, State.reset.marked t = false) ∧ State.reset.sectorMark = false ∧
  State.reset.chg = false ∧ State.reset.chgPin = true) ∧
  (∀ s : State,
     exec .powerOn s =
       .next { State.reset with startCause := .powerOn, pending := s.pending, freeIndex := s.freeIndex }) ∧
  (∀ (s : State) (r : Reply), s.reply = some r →
     (¬ (r.answered = 0x4F ∧ r.status = .ok) → exec .replySent s = .next { s with reply := none, reqBuf := none }) ∧
     (r.answered = 0x4F ∧ r.status = .ok →
       exec .replySent s =
         .next { State.reset with startCause := .restart, pending := s.pending, freeIndex := s.freeIndex } ∧
       exec .restartReset s =
         .next { State.reset with startCause := .restart, pending := s.pending, freeIndex := s.freeIndex }))

/-- The start cause is set by power-on and by RESTART's reset alone (R170); and no event of the modem link, of the
clock, or ending an operation touches the port, the start cause, the parameters, the ladder or HOLD (R90, R161). -/
def Obligations.ControlPortOwnsItsState : Prop :=
  (∀ (c : Instr) (s t : State), exec c s = .next t → t.startCause ≠ s.startCause →
     (c = .powerOn ∧ t.startCause = .powerOn) ∨
     ((c = .replySent ∨ c = .restartReset) ∧ t.startCause = .restart)) ∧
  (∀ (c : Instr) (s t : State), modemSide c = true → exec c s = .next t →
     s.samePort t ∧ t.startCause = s.startCause ∧ t.params = s.params ∧ t.ladder = s.ladder ∧ t.hold = s.hold ∧
     t.pending = s.pending)

/-- A message produced is not withdrawn by a later event (R153): but for resets and its own leaving, the list only
grows at its end. -/
def Obligations.MessagesAreNotWithdrawn : Prop :=
  ∀ (c : Instr) (s t : State), exec c s = .next t →
    c ≠ .powerOn → c ≠ .replySent → c ≠ .restartReset → c ≠ .outboundMessageSent →
    ∃ sent, t.outbox = s.outbox ++ sent

/-! ### The receivers and the line -/

/-- Discards of both receivers, the SYNC byte in HUNT, and the modem frames dropped (R144, R145, R146, R156, R157). A
completed frame leaves its receiver in HUNT, whatever stood in it: log entry 9. -/
def Obligations.ReceiverEvents : Prop :=
  ∀ s : State,
    (∀ b : Byte, b.toNat < 2 ∨ 252 < b.toNat →
      (s.cpRx.phase = .length → exec (.cpLengthDiscard b) s = .next { s with cpRx := ⟨.hunt, 0, [], 0⟩ }) ∧
      (s.mlRx.phase = .length → exec (.mlLengthDiscard b) s = .next { s with mlRx := ⟨.hunt, 0, [], 0⟩ })) ∧
    exec .cpGapDiscard s = .next { s with cpRx := ⟨.hunt, 0, [], 0⟩ } ∧
    exec .mlGapDiscard s = .next { s with mlRx := ⟨.hunt, 0, [], 0⟩ } ∧
    exec .mlCrcDiscard s = .next { s with mlRx := ⟨.hunt, 0, [], 0⟩ } ∧
    (∀ (kind tag : Byte) (body : List Byte),
      ¬ (kind = 0x10 ∧ body.length = 3) → ¬ (kind = 0x11 ∧ body.length = 6) → ¬ (kind = 0x12 ∧ body.length = 3) →
      ¬ (kind = 0x13 ∧ body.length = 4) →
      exec (.mlFrameDropped kind tag body) s = .next { s with mlRx := ⟨.hunt, 0, [], 0⟩ }) ∧
    (∀ b : Byte,
      (s.cpRx.phase = .hunt →
        exec (.cpSyncFound [b]) s = .next { s with cpRx := if b = 0xA5 then ⟨.length, 0, [], 0⟩ else s.cpRx }) ∧
      (s.mlRx.phase = .hunt →
        exec (.mlSyncFound [b]) s = .next { s with mlRx := if b = 0xA5 then ⟨.length, 0, [], 0⟩ else s.mlRx }))

/-- A frame that completes while the buffer is occupied is discarded, whatever it is (R156). In an empty buffer the
first three checks of R159 answer BAD_FRAME with TAG 0 and answered kind 0, BAD_KIND with the kind as received, and
BAD_LENGTH for every request kind. Nothing else changes. A completed frame leaves its receiver in HUNT, whatever stood
in it: log entry 9. -/
def Obligations.FramesRefused : Prop :=
  (∀ (s : State) (kind tag : Byte) (body : List Byte) (crcGood : Bool) (k : ReqKind), s.reqBuf.isSome = true →
     exec (.frameDiscardedBufferOccupied kind tag body crcGood) s = .next { s with cpRx := ⟨.hunt, 0, [], 0⟩ } ∧
     exec (.badFrame kind tag body) s = .next { s with cpRx := ⟨.hunt, 0, [], 0⟩ } ∧
     exec (.badKind kind tag body) s = .next { s with cpRx := ⟨.hunt, 0, [], 0⟩ } ∧
     exec (k.command tag body) s = .next { s with cpRx := ⟨.hunt, 0, [], 0⟩ }) ∧
  (∀ (s : State) (kind tag : Byte) (body : List Byte) (k : ReqKind), s.reqBuf = none →
     exec (.badFrame kind tag body) s =
       .next { s with cpRx := ⟨.hunt, 0, [], 0⟩, reqBuf := some ⟨⟨kind, tag, body⟩, false⟩,
                      reply := some ⟨0, 0, .badFrame, []⟩ } ∧
     (kind.toNat < 0x40 ∨ 0x4F < kind.toNat →
       exec (.badKind kind tag body) s =
         .next { s with cpRx := ⟨.hunt, 0, [], 0⟩, reqBuf := some ⟨⟨kind, tag, body⟩, true⟩,
                        reply := some ⟨tag, kind, .badKind, []⟩ }) ∧
     (body.length ≠ k.bodyLen → exec (k.command tag body) s = .next (s.replied k tag body .badLength [])))

/-- Decode and encode agree on the control port: the bytes of any frame, taken in HUNT, are the request of its KIND
with its TAG and body, or BAD_KIND; with other CRC bytes they are BAD_FRAME (R144, R156, R157, R159, R172). -/
def Obligations.ControlLineCarriesRequests : Prop :=
  ∀ (s : State) (tag : Byte) (body : List Byte), body.length ≤ 250 → s.cpRx.phase = .hunt →
    (∀ k : ReqKind, exec (.cpSyncFound (frameBytes ⟨k.code, tag, body⟩)) s = exec (k.command tag body) s) ∧
    (∀ kind : Byte, kind.toNat < 0x40 ∨ 0x4F < kind.toNat →
      exec (.cpSyncFound (frameBytes ⟨kind, tag, body⟩)) s = exec (.badKind kind tag body) s) ∧
    (∀ (kind : Byte) (crc : BitVec 16), crc ≠ crc16 (crcScope ⟨kind, tag, body⟩) →
      exec (.cpSyncFound (0xA5 :: crcScope ⟨kind, tag, body⟩ ++ bytesOf crc)) s = exec (.badFrame kind tag body) s)

/-- Decode and encode agree on the modem link: the bytes of each inbound message, taken in HUNT, are that message with
every field at every value; with other CRC bytes they are discarded (R144, R145, R146, R172, R175). -/
def Obligations.ModemLineCarriesMessages : Prop :=
  ∀ s : State, s.mlRx.phase = .hunt →
    (∀ (n : FrameNo) (slots tag : Byte),
      exec (.mlSyncFound (frameBytes ⟨0x10, tag, bytesOf n ++ [slots]⟩)) s = exec (.frame n slots) s) ∧
    (∀ (terminal errors tag : Byte) (b : FrameNo) (level : BitVec 16),
      exec (.mlSyncFound (frameBytes ⟨0x11, tag, [terminal] ++ bytesOf b ++ bytesOf level ++ [errors]⟩)) s =
        exec (.burst terminal b level errors) s) ∧
    (∀ (terminal tag : Byte) (b : FrameNo),
      exec (.mlSyncFound (frameBytes ⟨0x12, tag, [terminal] ++ bytesOf b⟩)) s = exec (.miss terminal b) s) ∧
    (∀ (tag outcome errors : Byte) (level : BitVec 16),
      exec (.mlSyncFound (frameBytes ⟨0x13, tag, [outcome] ++ bytesOf level ++ [errors]⟩)) s =
        exec (.pollResult tag outcome level errors) s) ∧
    (∀ (f : WireFrame) (crc : BitVec 16), f.body.length ≤ 250 → crc ≠ crc16 (crcScope f) →
      exec (.mlSyncFound (0xA5 :: crcScope f ++ bytesOf crc)) s = exec .mlCrcDiscard s)

/-- The frames the part sends: SYNC, LEN, KIND, TAG, the body of R175 or R177, the CRC high byte first; the TAG of a
POLL is its tag and that of the other modem messages 0; and the CRC of the nine check bytes is 0x29B1 (R172). On the
control port a byte is a start bit, its bits from the least significant on, and a stop bit, the bytes of a reply back
to back, and a byte is taken whatever its stop bit (R171). The codes of the statuses and of the requests, and the
requests' body lengths, are those of R174. -/
def Obligations.FramesSent : Prop :=
  [Status.ok, .badFrame, .badKind, .badLength, .badTerminal, .notProvisioned, .alreadyExists, .order, .wrongState].map
    Status.code = [0, 1, 2, 3, 4, 5, 6, 7, 8] ∧
  [ReqKind.status, .setSector, .readSector, .setLadder, .provision, .amend, .retire, .readTerminal, .bar, .unbar,
    .restoreNow, .hold, .release, .readChanges, .readQueue, .restart].map (fun k => (k.code.toNat, k.bodyLen)) =
    [(0x40, 0), (0x41, 25), (0x42, 0), (0x43, 9), (0x44, 12), (0x45, 9), (0x46, 1), (0x47, 1), (0x48, 1), (0x49, 1),
     (0x4A, 1), (0x4B, 0), (0x4C, 0), (0x4D, 0), (0x4E, 0), (0x4F, 0)] ∧
  (∀ f : WireFrame,
    frameBytes f =
      [0xA5, BitVec.ofNat 8 (f.body.length + 2), f.kind, f.tag] ++ f.body ++
        [(crc16 (BitVec.ofNat 8 (f.body.length + 2) :: f.kind :: f.tag :: f.body)).extractLsb' 8 8,
         (crc16 (BitVec.ofNat 8 (f.body.length + 2) :: f.kind :: f.tag :: f.body)).extractLsb' 0 8]) ∧
  crc16 [0x31, 0x32, 0x33, 0x34, 0x35, 0x36, 0x37, 0x38, 0x39] = 0x29B1#16 ∧
  (∀ (k : PollTag) (t : TermId) (slot power up down : Nat) (f : FrameNo),
    (OutMsg.poll k t slot power).bytes =
      frameBytes ⟨0x20, BitVec.ofNat 8 k.val,
        [BitVec.ofNat 8 (t.val + 1), BitVec.ofNat 8 slot, BitVec.ofNat 8 power]⟩ ∧
    (OutMsg.power t power f).bytes =
      frameBytes ⟨0x21, 0, [BitVec.ofNat 8 (t.val + 1), BitVec.ofNat 8 power, f.extractLsb' 8 8, f.extractLsb' 0 8]⟩ ∧
    (OutMsg.profile t up down).bytes =
      frameBytes ⟨0x22, 0, [BitVec.ofNat 8 (t.val + 1), BitVec.ofNat 8 up, BitVec.ofNat 8 down]⟩ ∧
    (OutMsg.withdraw t).bytes = frameBytes ⟨0x23, 0, [BitVec.ofNat 8 (t.val + 1)]⟩ ∧
    (OutMsg.admission t power f up down).bytes =
      frameBytes ⟨0x24, 0, [BitVec.ofNat 8 (t.val + 1), BitVec.ofNat 8 power, f.extractLsb' 8 8, f.extractLsb' 0 8,
        BitVec.ofNat 8 up, BitVec.ofNat 8 down]⟩) ∧
  (∀ r : Reply, r.bytes = frameBytes ⟨0x80, r.tag, r.answered :: BitVec.ofNat 8 r.status.code :: r.contents⟩ ∧
    r.line = r.bytes.flatMap (fun b =>
      [false, b.getLsbD 0, b.getLsbD 1, b.getLsbD 2, b.getLsbD 3, b.getLsbD 4, b.getLsbD 5, b.getLsbD 6, b.getLsbD 7,
       true])) ∧
  (∀ (b : Byte) (stop : Bool), byteOfLine ((lineBits b).take 9 ++ [stop]) = b)

/-! ### The requests that report -/

/-- STATUS is answered with the 24 bytes of R177 (R160); READ QUEUE with the queue, the four engines, the stack and
preempt-pending (R168). Both change nothing. A completed frame leaves its receiver in HUNT, whatever stood in it: log
entry 9. The codes are those of R174. -/
def Obligations.StatusAndQueueReplies : Prop :=
  [StartCause.powerOn, .restart].map StartCause.code = [0, 1] ∧
  [Mode.clear, .degraded, .outage].map Mode.code = [0, 1, 2] ∧
  [Phase.coarse, .fine, .confirm, .settle, .verify].map Phase.code = [1, 2, 3, 4, 5] ∧
  (∀ (tag : Byte) (s : State), s.reqBuf = none →
     exec (.status tag []) s = .next (s.replied .status tag [] .ok
       ([0x0B, 0x40, 0x01, byteOf s.startCause.code, byteOf s.mode.code,
         byteOf ((if s.hold then 1 else 0) + (if s.preemptPending then 2 else 0) + (if s.modemSilent then 4 else 0))] ++
        [TermState.unused, .serving, .queued, .active, .suspended, .backoff, .held, .barred].map
         (fun st => byteOf (allTerms.countP (fun t => (s.term t).state = st))) ++
        [(0 : EngineId), 1, 2, 3].flatMap (fun e =>
         match s.job e with
         | none => [0, 0]
         | some j => [byteOf j.phase.code, byteOf (numberOf j.term)]) ++
        [byteOf s.stack.length, byteOf s.queue.length]))) ∧
  (∀ (tag : Byte) (s : State), s.reqBuf = none →
     exec (.readQueue tag []) s = .next (s.replied .readQueue tag [] .ok
       ([byteOf s.queue.length] ++
        s.queue.flatMap (fun t =>
          [byteOf (numberOf t), byteOf ((s.term t).cls + if (s.term t).heard then 128 else 0)]) ++
        [(0 : EngineId), 1, 2, 3].flatMap (fun e =>
          match s.job e with
          | none => [0, 0, 0, 0, 0, 0, 0, 0, 0, 0, 0]
          | some j =>
            [byteOf j.phase.code, byteOf (numberOf j.term), byteOf j.cls] ++ bytesOf j.serial ++
            [byteOf j.pollPower, byteOf j.limitCount, byteOf j.confirmLeft] ++
            (if j.phase = .settle then
              [byteOf ((j.ramp.map Ramp.target).getD 0), byteOf ((j.ramp.map Ramp.step).getD 0), byteOf j.settleMiss]
             else [0, 0, 0])) ++
        [byteOf s.stack.length] ++
        s.stack.flatMap (fun c =>
          [byteOf (numberOf c.term), byteOf c.cls, byteOf c.phase.code, byteOf c.pollPower, byteOf c.limitCount,
           byteOf c.confirmLeft]) ++
        [if s.preemptPending then 1 else 0])))

/-- The eight counts sum to 64; QUEUED is the queue length, SUSPENDED the stack depth, ACTIVE the engines not IDLE
(R160). The law of R6 is the premise. -/
def Obligations.StatusCounts : Prop :=
  ∀ s : State, CollectionsLaw s →
    (allStates.map s.countOf).sum = 64 ∧ s.countOf .queued = s.queue.length ∧
    s.countOf .suspended = s.stack.length ∧
    s.countOf .active = ([(0 : EngineId), 1, 2, 3].filter (fun e => (s.job e).isSome)).length

/-- SET SECTOR clamps and stores the 22 parameters and changes nothing else (R162); its reply and READ SECTOR's carry
the record and the ladder in force (R163). The statement leaves the receiver open. The 34 bytes of the record and the
ladder stand in the order of R176. -/
def Obligations.SectorRequests : Prop :=
  (∀ (tag : Byte) (body : List Byte) (s : State), s.reqBuf = none → body.length = 25 →
    ∃ (p : SectorParams) (rx : Receiver),
      exec (.setSector tag body) s =
        .next { ({ s with params := p } : State).replied .setSector tag body .ok (p.contents ++ s.ladder.contents)
                with cpRx := rx } ∧
      p =
        { alpha := max 1 (min (numAt body 0) 8), allowance := min (numAt body 1) 40
          ratio := max 8 (min (numAt body 2) 32), errLimit := min (numAt body 3) 63
          missLimit := max 2 (min (numAt body 4) 15), trackStep := max 1 (min (numAt body 5) 8)
          deadband := min (numAt body 6) 8, latency := max 1 (min (numAt body 7) 8)
          coarseStep := max 2 (min (numAt body 8) 16)
          fineStep := min (max 1 (min (numAt body 9) 4)) (max 2 (min (numAt body 8) 16))
          limitPolls := max 1 (min (numAt body 10) 15), confirmCount := max 1 (min (numAt body 11) 15)
          retryLimit := min (numAt body 12) 15, backoffBase := max 8 (min (num16At body 13) 4096)
          slowStep := max 1 (min (numAt body 15) 4)
          fastStep := max (max 1 (min (numAt body 16) 16)) (max 1 (min (numAt body 15) 4))
          rampInterval := max 1 (min (numAt body 17) 64), slotsPerFrame := max 1 (min (numAt body 18) 4)
          sweepOn := decide (byteAt body 19 ≠ 0), windowLength := max 16 (min (num16At body 20) 4096)
          quorum := max 2 (min (numAt body 22) 64), holdOffLoad := num16At body 23 }) ∧
  (∀ (tag : Byte) (s : State), s.reqBuf = none →
    ∃ rx : Receiver,
      exec (.readSector tag []) s =
        .next { s.replied .readSector tag [] .ok (s.params.contents ++ s.ladder.contents) with cpRx := rx }) ∧
  (∀ (p : SectorParams) (l : Ladder) (n : Nat → Byte), n = BitVec.ofNat 8 →
    p.contents ++ l.contents =
      [n p.alpha, n p.allowance, n p.ratio, n p.errLimit, n p.missLimit, n p.trackStep, n p.deadband, n p.latency,
       n p.coarseStep, n p.fineStep, n p.limitPolls, n p.confirmCount, n p.retryLimit, n (p.backoffBase / 256),
       n p.backoffBase, n p.slowStep, n p.fastStep, n p.rampInterval, n p.slotsPerFrame,
       if p.sweepOn then 0x01 else 0x00, n (p.windowLength / 256), n p.windowLength, n p.quorum,
       n (p.holdOffLoad / 256), n p.holdOffLoad, n (l.at 0), n (l.at 1), n (l.at 2), n (l.at 3), n (l.at 4), n (l.at 5),
       n (l.at 6), n (l.at 7), n l.hysteresis])

/-- SET LADDER clamps, then stores an increasing ladder or answers ORDER and keeps the ladder in force (R46). The
statement leaves the receiver open. -/
def Obligations.SetLadderChecksOrder : Prop :=
  ∀ (tag : Byte) (body : List Byte) (s : State), s.reqBuf = none → body.length = 9 →
    ((∀ i, i < 7 → min (numAt body i) 240 < min (numAt body (i + 1)) 240) →
      ∃ (l : Ladder) (rx : Receiver),
        (∀ p, p < 8 → l.at p = min (numAt body p) 240) ∧ l.hysteresis = min (numAt body 8) 40 ∧
        exec (.setLadder tag body) s =
          .next { ({ s with ladder := l } : State).replied .setLadder tag body .ok
              ((List.range 8).map (fun i => byteOf (min (numAt body i) 240)) ++ [byteOf (min (numAt body 8) 40)])
            with cpRx := rx }) ∧
    ((∃ i, i < 7 ∧ min (numAt body (i + 1)) 240 ≤ min (numAt body i) 240) →
      ∃ rx : Receiver,
        exec (.setLadder tag body) s = .next { s.replied .setLadder tag body .order [] with cpRx := rx })

/-- READ TERMINAL gives every field of the record, or the power-on record for terminal 0 and an UNUSED one; above 64
it is BAD_TERMINAL. It changes nothing (R8, R9, R177). A completed frame leaves its receiver in HUNT, whatever stood
in it: log entry 9. The codes are those of R174. -/
def Obligations.ReadTerminalReply : Prop :=
  [TermState.unused, .serving, .queued, .active, .suspended, .backoff, .held, .barred].map TermState.code =
    [0, 1, 2, 3, 4, 5, 6, 7] ∧
  ∀ (tag b : Byte) (s : State), s.reqBuf = none →
    (64 < b.toNat → exec (.readTerminal tag [b]) s = .next (s.replied .readTerminal tag [b] .badTerminal [])) ∧
    (b.toNat = 0 ∨ (∃ t, b.toNat = numberOf t ∧ (s.term t).state = .unused) →
      exec (.readTerminal tag [b]) s = .next (s.replied .readTerminal tag [b] .ok (b :: List.replicate 32 0))) ∧
    (∀ t, b.toNat = numberOf t → (s.term t).state ≠ .unused →
      exec (.readTerminal tag [b]) s = .next (s.replied .readTerminal tag [b] .ok
        ([b, byteOf (s.term t).state.code, byteOf (s.term t).cls] ++ bytesOfInt (s.term t).refLevel ++
         [byteOf (s.term t).su, byteOf (s.term t).sd, byteOf (s.term t).pmax, byteOf (s.term t).startPower,
          byteOf (s.term t).depth, byteOf (s.term t).pc, byteOf (s.term t).pe,
          byteOf ((if (s.term t).pendingCmd.isSome then 1 else 0) + (if (s.term t).ambigUntil.isSome then 2 else 0) +
            (if (s.term t).lossPower.isSome then 4 else 0) + (if (s.term t).foundPower.isSome then 8 else 0) +
            (if (s.term t).lostAt.isSome then 16 else 0)),
          byteOf (((s.term t).pendingCmd.map PowerCmd.value).getD 0)] ++
         bytesOf (((s.term t).pendingCmd.map PowerCmd.effect).getD 0) ++ bytesOf ((s.term t).ambigUntil.getD 0) ++
         [byteOf (s.term t).fade, byteOf (s.term t).up, byteOf (s.term t).down] ++ bytesOfNat (s.term t).holdOff ++
         [byteOf (s.term t).missCount, (if (s.term t).heard then (1 : Byte) else 0), byteOf (s.term t).retries] ++
         bytesOfNat (s.term t).backoff ++
         [byteOf ((s.term t).lossPower.getD 0), byteOf ((s.term t).foundPower.getD 0)] ++
         bytesOf ((s.term t).lostAt.getD 0) ++
         [match (s.term t).lossReason with
          | none => (0 : Byte) | some .misses => 1 | some .floor => 2 | some .forced => 3])))

/-- READ CHANGES reports the sector item, the lowest sixteen marked terminals and the more flag, and clears the sector
mark and the marks it reported (R166, R167). A completed frame leaves its receiver in HUNT, whatever stood in it: log
entry 9. -/
def Obligations.ReadChangesReply : Prop :=
  ∀ (tag : Byte) (s : State), s.reqBuf = none →
    ∃ (m : Vector Bool 64) (told : List TermId),
      told = (allTerms.filter (fun t => s.marked t)).take 16 ∧
      (∀ t : TermId, m.get t = (s.marked t && !told.contains t)) ∧
      exec (.readChanges tag []) s =
        .next (({ s with marks := m, sectorMark := false } : State).replied .readChanges tag [] .ok
          ([if s.sectorMark then byteOf s.mode.code else 0xFF, byteOf told.length] ++
           told.flatMap (fun t =>
             [byteOf (numberOf t), byteOf (s.term t).state.code, byteOf (s.term t).up, byteOf (s.term t).down,
              byteOf (s.term t).pc, byteOf (lossReasonCode (s.term t).lossReason)]) ++
           [if allTerms.any (fun t => m.get t) then 1 else 0]))

/-- CHG is asserted exactly when the change map holds at least one mark, the sector's or a terminal's (R165), and its pin
is driven low while asserted and high while not (R171); that CHG is a view of the marks is log entry 3. Four READ CHANGES,
each with its reply sent, collect every mark, and CHG is deasserted (R165, R167). -/
def Obligations.FourReadChangesEmptyTheMap : Prop :=
  (∀ s : State, (s.chg = true ↔ s.sectorMark = true ∨ ∃ u, s.marked u = true) ∧ s.chgPin = !s.chg) ∧
  ∀ (s : State) (g₁ g₂ g₃ g₄ : Byte), s.reqBuf = none → s.reply = none →
    s.pending = [.readChanges g₁ [], .replySent, .readChanges g₂ [], .replySent, .readChanges g₃ [], .replySent,
      .readChanges g₄ [], .replySent] →
    ∃ t : State, Host.Core.run Sys2Proof.core 8 s = .next t ∧ (∀ u, t.marked u = false) ∧ t.sectorMark = false ∧
      t.chg = false ∧ t.chgPin = true ∧ t.terms = s.terms ∧ t.queue = s.queue ∧ t.engines = s.engines ∧ t.pending = []

/-! ### The requests on a terminal -/

/-- The checks of R8 on the six requests that write, and the state checks of BAR, UNBAR and RESTORE NOW: the status,
and nothing else changes. A completed frame leaves its receiver in HUNT, whatever stood in it: log entry 9. -/
def Obligations.TerminalChecks : Prop :=
  ∀ (s : State) (tag : Byte) (body : List Byte) (k : ReqKind), s.reqBuf = none → body.length = k.bodyLen →
    k ∈ [ReqKind.provision, .amend, .retire, .bar, .unbar, .restoreNow] →
    (64 < numAt body 0 → exec (k.command tag body) s = .next (s.replied k tag body .badTerminal [])) ∧
    (numAt body 0 = 0 → exec (k.command tag body) s = .next (s.replied k tag body .ok [])) ∧
    ∀ t, numAt body 0 = numberOf t →
      ((s.term t).state = .unused → k ≠ .provision →
        exec (k.command tag body) s = .next (s.replied k tag body .notProvisioned [])) ∧
      ((s.term t).state ≠ .unused → k = .provision →
        exec (k.command tag body) s = .next (s.replied k tag body .alreadyExists [])) ∧
      ((s.term t).state = .barred → k = .bar ∨ k = .restoreNow →
        exec (k.command tag body) s = .next (s.replied k tag body .wrongState [])) ∧
      ((s.term t).state ≠ .unused → (s.term t).state ≠ .barred → k = .unbar →
        exec (k.command tag body) s = .next (s.replied k tag body .wrongState [])) ∧
      ((s.term t).state = .queued ∨ (s.term t).state = .active ∨ (s.term t).state = .suspended → k = .restoreNow →
        exec (k.command tag body) s = .next (s.replied k tag body .ok []))

/-- PROVISION entering as SERVING makes the record, marks the terminal and sends ADMIT, and does nothing else (R2,
R10, R11). A completed frame leaves its receiver in HUNT, whatever stood in it: log entry 9. -/
def Obligations.ProvisionServing : Prop :=
  ∀ (tag : Byte) (body : List Byte) (s : State) (t : TermId), s.reqBuf = none → body.length = 12 →
    numAt body 0 = numberOf t → (s.term t).state = .unused → byteAt body 11 = 0x01 →
    ∃ pmax sp up down : Nat,
      pmax = min (numAt body 6) 80 ∧ sp = min (numAt body 7) pmax ∧ up = min (numAt body 9) 7 ∧
      down = min (numAt body 10) 7 ∧
      exec (.provision tag body) s =
        .next ((((s.setTerm t
          { state := .serving, cls := min (numAt body 1) 3
            refLevel := max (-440) (min (int16At body 2) (-120)), su := min (numAt body 4) 240
            sd := min (numAt body 5) 240, pmax := pmax, startPower := sp
            depth := max 1 (min (numAt body 8) 8), pc := sp, pe := sp, pendingCmd := none, ambigUntil := none
            fade := 0, up := up, down := down, holdOff := s.params.holdOffLoad, missCount := 0, heard := false
            retries := 0, backoff := 0, lossPower := none, foundPower := none, lostAt := none
            lossReason := none }).mark t).send
          (.admission t sp (s.lastFrame + BitVec.ofNat 16 s.params.latency) up down)).replied
            .provision tag body .ok [])

/-- PROVISION entering as RESTORE makes the record QUEUED with reason FORCED, sends nothing, and the terminal joins
the queue (R2, R10, R12). A completed frame leaves its receiver in HUNT, whatever stood in it: log entry 9. -/
def Obligations.ProvisionRestore : Prop :=
  ∀ (tag : Byte) (body : List Byte) (s : State) (t : TermId), s.reqBuf = none → body.length = 12 →
    numAt body 0 = numberOf t → (s.term t).state = .unused → byteAt body 11 ≠ 0x01 →
    ∃ (v : State) (pmax sp : Nat),
      exec (.provision tag body) s = .next v ∧ pmax = min (numAt body 6) 80 ∧ sp = min (numAt body 7) pmax ∧
      s.joined v t
        { state := .queued, cls := min (numAt body 1) 3
          refLevel := max (-440) (min (int16At body 2) (-120)), su := min (numAt body 4) 240
          sd := min (numAt body 5) 240, pmax := pmax, startPower := sp
          depth := max 1 (min (numAt body 8) 8), pc := sp, pe := sp, pendingCmd := none, ambigUntil := none
          fade := 0, up := 0, down := 0, holdOff := 0, missCount := 0, heard := false, retries := 0, backoff := 0
          lossPower := none, foundPower := none, lostAt := some s.lastFrame, lossReason := some .forced } ∧
      v.outbox = s.outbox ∧ v.lossWindow = s.lossWindow ∧ s.sameRest v ∧ v.mlRx = s.mlRx ∧
      v.answers .provision tag body .ok []

/-- AMEND stores the seven clamped values; with the class unchanged and Pmax not below Pc nothing else changes (R2,
R13, R15). The flag law of R89 is the premise that makes the re-examined flag the same. A completed frame leaves its
receiver in HUNT, whatever stood in it: log entry 9. -/
def Obligations.AmendStoresValues : Prop :=
  ∀ (tag : Byte) (body : List Byte) (s : State) (t : TermId), FlagLaw s → s.reqBuf = none → body.length = 9 →
    numAt body 0 = numberOf t → (s.term t).state ≠ .unused → min (numAt body 1) 3 = (s.term t).cls →
    (s.term t).pc ≤ min (numAt body 6) 80 →
    exec (.amend tag body) s =
      .next ((s.setTerm t { s.term t with
        refLevel := max (-440) (min (int16At body 2) (-120)), su := min (numAt body 4) 240
        sd := min (numAt body 5) 240, pmax := min (numAt body 6) 80
        startPower := min (numAt body 7) (min (numAt body 6) 80)
        depth := max 1 (min (numAt body 8) 8) }).replied .amend tag body .ok [])

/-- AMEND leaving Pc above the new Pmax issues a superseding command to it, in every provisioned state (R15, R59,
R60); a job in VERIFY begins a new gate at it (R30). Where the class changes too, R14's work on queue, stack and job
comes with it, and the arbiter evaluates. A completed frame leaves its receiver in HUNT, whatever stood in it: log
entry 9. The frame from which a later VERIFY gate counts is kept in the job: log entry 4. -/
def Obligations.AmendClampsPower : Prop :=
  ∀ (tag : Byte) (body : List Byte) (s : State) (t : TermId), s.reqBuf = none → body.length = 9 →
    numAt body 0 = numberOf t → (s.term t).state ≠ .unused → min (numAt body 6) 80 < (s.term t).pc →
    ∃ (v : State) (pmax : Nat) (f : FrameNo) (r : TermRec),
      exec (.amend tag body) s = .next v ∧ pmax = min (numAt body 6) 80 ∧
      f = s.lastFrame + BitVec.ofNat 16 s.params.latency ∧ r = (s.term t).completed s.lastFrame ∧
      (∃ st h, v.term t = { r with
        state := st, heard := h, cls := min (numAt body 1) 3
        refLevel := max (-440) (min (int16At body 2) (-120)), su := min (numAt body 4) 240
        sd := min (numAt body 5) 240, pmax := pmax, startPower := min (numAt body 7) pmax
        depth := max 1 (min (numAt body 8) 8), pc := pmax, pendingCmd := some ⟨pmax, f⟩
        ambigUntil := if r.pendingCmd.isSome then some f else r.ambigUntil }) ∧
      v.outbox = s.outbox ++ [.power t pmax f] ∧
      (∀ u, u ≠ t → (s.term u).sameButPlace (v.term u)) ∧
      (∀ e j, s.holds t e j → j.phase = .verify →
        ∃ j', v.job e = some j' ∧ j'.phase = .verify ∧
          j'.gate = some ⟨max 1 (min (numAt body 8) 8), pmax, some f, 0, 0, 0, 0⟩) ∧
      (min (numAt body 1) 3 = (s.term t).cls →
        (v.term t).state = (s.term t).state ∧ (v.term t).heard = (s.term t).heard ∧
        (∀ u, u ≠ t → v.term u = s.term u) ∧ v.queue = s.queue ∧ v.stack = s.stack ∧ v.serial = s.serial ∧
        v.marks = s.marks ∧ v.preemptPending = v.preemptBlocked ∧
        (∀ e, s.engineOf t ≠ some e → v.job e = s.job e) ∧
        (∀ e j, s.engineOf t = some e → s.job e = some j → v.job e = some (match j.phase with
          | .settle => { j with cmdFrame := some f }
          | .verify => { j with
              cmdFrame := some f, gate := some ⟨max 1 (min (numAt body 8) 8), pmax, some f, 0, 0, 0, 0⟩ }
          | _ => j))) ∧
      (∃ es : Vector (Option Job) 4,
        (∀ e, es.get e = (s.job e).map (fun j => { j with
          cls := if j.term = t ∧ (s.term t).state = .active ∧ min (numAt body 1) 3 ≠ (s.term t).cls then
            min (numAt body 1) 3 else j.cls
          cmdFrame := if j.phase.searching = false ∧ s.engineOf t = some e then some f else j.cmdFrame
          gate := if j.phase = .verify ∧ s.engineOf t = some e then
            some ⟨max 1 (min (numAt body 8) 8), pmax, some f, 0, 0, 0, 0⟩ else j.gate })) ∧
        v.closedFrom
          ⟨{ s with
              terms := (s.setTerm t { v.term t with state := (s.term t).state, heard := (s.term t).heard }).terms
              queue := if (s.term t).state = .queued ∧ min (numAt body 1) 3 ≠ (s.term t).cls then
                (((s.leaveQueue t).setTerm t { s.term t with cls := min (numAt body 1) 3 }).joinEnd t).queue else s.queue
              stack := if (s.term t).state = .suspended then
                s.stack.map (fun c => if c.term = t then
                  { c with cls := if min (numAt body 1) 3 = (s.term t).cls then c.cls else min (numAt body 1) 3 } else c)
                else s.stack
              engines := es },
            decide ((s.term t).state ∈ [TermState.queued, .active, .suspended] ∧
              min (numAt body 1) 3 ≠ (s.term t).cls)⟩) ∧
      v.mode = s.mode ∧ v.sectorMark = s.sectorMark ∧ v.polls = s.polls ∧ v.lossWindow = s.lossWindow ∧
      s.sameRest v ∧ v.mlRx = s.mlRx ∧ v.answers .amend tag body .ok []

/-- AMEND of the class, with no Pmax clamp: the new class goes into the record and into the collection that holds the
terminal; a QUEUED one moves to the end of its new group; then the arbiter evaluates where one of its collections
holds it (R14). A completed frame leaves its receiver in HUNT, whatever stood in it: log entry 9. -/
def Obligations.AmendChangesClass : Prop :=
  ∀ (tag : Byte) (body : List Byte) (s : State) (t : TermId), s.reqBuf = none → body.length = 9 →
    numAt body 0 = numberOf t → (s.term t).state ≠ .unused → min (numAt body 1) 3 ≠ (s.term t).cls →
    (s.term t).pc ≤ min (numAt body 6) 80 →
    ∃ (v : State) (r : TermRec),
      exec (.amend tag body) s = .next v ∧
      r = { s.term t with
        cls := min (numAt body 1) 3, refLevel := max (-440) (min (int16At body 2) (-120))
        su := min (numAt body 4) 240, sd := min (numAt body 5) 240, pmax := min (numAt body 6) 80
        startPower := min (numAt body 7) (min (numAt body 6) 80), depth := max 1 (min (numAt body 8) 8) } ∧
      r.sameButPlace (v.term t) ∧ (∀ u, u ≠ t → (s.term u).sameButPlace (v.term u)) ∧
      v.closedFrom
        ⟨{ s with
            terms := (s.setTerm t r).terms
            queue := if (s.term t).state = .queued then (((s.leaveQueue t).setTerm t r).joinEnd t).queue else s.queue
            stack := if (s.term t).state = .suspended then
              s.stack.map (fun c => if c.term = t then { c with cls := r.cls } else c) else s.stack
            engines := if (s.term t).state = .active then
              mapPlaces (fun o => o.map (fun j => if j.term = t then { j with cls := r.cls } else j)) s.engines
              else s.engines },
          decide ((s.term t).state ∈ [TermState.queued, .active, .suspended])⟩ ∧
      v.sectorMark = s.sectorMark ∧
      v.outbox = s.outbox ∧ v.mode = s.mode ∧ v.polls = s.polls ∧ v.lossWindow = s.lossWindow ∧ s.sameRest v ∧
      v.mlRx = s.mlRx ∧ v.answers .amend tag body .ok []

/-- RETIRE returns the record to its power-on values and takes the terminal out of every part (R16); BAR of a terminal
that is not BARRED takes it out in the same way and keeps the record (R17). A completed frame leaves its receiver in
HUNT, whatever stood in it: log entry 9. -/
def Obligations.RetireAndBarTakeOut : Prop :=
  (∀ (tag : Byte) (body : List Byte) (s : State) (t : TermId), s.reqBuf = none → body.length = 1 →
     numAt body 0 = numberOf t → (s.term t).state ≠ .unused →
     ∃ v : State, exec (.retire tag body) s = .next v ∧ v.term t = TermRec.powerOn ∧ s.takenOut v t ∧
       s.sameRest v ∧ v.mlRx = s.mlRx ∧ v.answers .retire tag body .ok []) ∧
  (∀ (tag : Byte) (body : List Byte) (s : State) (t : TermId), s.reqBuf = none → body.length = 1 →
     numAt body 0 = numberOf t → (s.term t).state ≠ .unused → (s.term t).state ≠ .barred →
     ∃ v : State, exec (.bar tag body) s = .next v ∧
       v.term t = { s.term t with state := .barred, heard := false, missCount := 0, backoff := 0 } ∧ s.takenOut v t ∧
       s.sameRest v ∧ v.mlRx = s.mlRx ∧ v.answers .bar tag body .ok [])

/-- Back to the queue: UNBAR of a BARRED terminal, RESTORE NOW of one in BACKOFF or HELD (R19, R20), RESTORE NOW of a
SERVING one, a loss with reason FORCED that makes no loss-window entry (R20, R67, R70), and a spent backoff (R103). As
a command BACKOFF_EXPIRY acts on a spent backoff and on no other: log entry 6. A completed frame leaves its receiver
in HUNT, whatever stood in it: log entry 9. -/
def Obligations.TerminalsRequeued : Prop :=
  (∀ (tag : Byte) (body : List Byte) (s : State) (t : TermId), s.reqBuf = none → body.length = 1 →
     numAt body 0 = numberOf t →
     ((s.term t).state = .barred →
       ∃ v : State, exec (.unbar tag body) s = .next v ∧
         s.joined v t { s.term t with
           state := .queued, lossReason := some .forced, lostAt := some s.lastFrame, retries := 0, heard := false,
           missCount := 0 } ∧
         v.outbox = s.outbox ∧ v.lossWindow = s.lossWindow ∧ s.sameRest v ∧ v.mlRx = s.mlRx ∧
         v.answers .unbar tag body .ok []) ∧
     ((s.term t).state = .backoff ∨ (s.term t).state = .held →
       ∃ v : State, exec (.restoreNow tag body) s = .next v ∧
         s.joined v t { s.term t with
           state := .queued, heard := false
           backoff := if (s.term t).state = .backoff then 0 else (s.term t).backoff } ∧
         v.outbox = s.outbox ∧ v.lossWindow = s.lossWindow ∧ s.sameRest v ∧ v.mlRx = s.mlRx ∧
         v.answers .restoreNow tag body .ok [])) ∧
  (∀ (tag : Byte) (body : List Byte) (s : State) (t : TermId), s.reqBuf = none → body.length = 1 →
     numAt body 0 = numberOf t → (s.term t).state = .serving →
     ∃ (v : State) (r : TermRec), exec (.restoreNow tag body) s = .next v ∧ r = (s.term t).completed s.lastFrame ∧
       s.joined v t { r with
         state := .queued, lossPower := some r.pe, lostAt := some s.lastFrame, lossReason := some .forced,
         foundPower := none, retries := 0, heard := false, missCount := 0 } ∧
       v.outbox = s.outbox ++ [.withdraw t] ∧ v.lossWindow = s.lossWindow ∧ s.sameRest v ∧ v.mlRx = s.mlRx ∧
       v.answers .restoreNow tag body .ok []) ∧
  (∀ (s : State) (t : TermId),
     ((s.term t).state = .backoff → (s.term t).backoff = 0 →
       ∃ v : State, exec (.backoffExpiry t) s = .next v ∧
         s.joined v t { s.term t with state := .queued, heard := false } ∧
         v.outbox = s.outbox ∧ v.lossWindow = s.lossWindow ∧ v.mlRx = s.mlRx ∧ s.sameRest v ∧ s.samePort v) ∧
     (¬ ((s.term t).state = .backoff ∧ (s.term t).backoff = 0) → exec (.backoffExpiry t) s = .next s))

/-- HOLD sets the flag (R90); RESTART is answered and nothing more happens yet (R169); RELEASE clears the flag and
makes an evaluation before its reply (R91). A completed frame leaves its receiver in HUNT, whatever stood in it: log
entry 9. -/
def Obligations.HoldReleaseRestart : Prop :=
  ∀ (tag : Byte) (s : State), s.reqBuf = none →
    exec (.hold tag []) s = .next (({ s with hold := true } : State).replied .hold tag [] .ok []) ∧
    exec (.restart tag []) s = .next (s.replied .restart tag [] .ok []) ∧
    exec (.release tag []) s =
      .next ((Work.trigger { s with hold := false }).close.replied .release tag [] .ok [])

/-! ### The arbiter -/

/-- What the evaluation at the end of an event does: under HOLD and in OUTAGE nothing but the re-examination of the
flag; else every engine is busy or nothing waits, no preemption with room is left, jobs in SETTLE and VERIFY stand,
and records change in state and heard flag alone (R80, R81, R84, R89). -/
def Obligations.EvaluationDecides : Prop :=
  ∀ s v : State, v = (Work.trigger s).close →
    (s.hold = true ∨ s.mode = .outage → v = { s with preemptPending := s.preemptBlocked }) ∧
    (s.hold = false → s.mode ≠ .outage →
      ((∀ e, (v.job e).isSome = true) ∨ (v.queue = [] ∧ v.stack = [])) ∧
      (v.preemptWanted = none ∨ 8 ≤ v.stack.length) ∧ v.preemptPending = v.preemptBlocked ∧
      (s.stack.length ≤ 8 → v.stack.length ≤ 8) ∧
      (∀ e j, s.job e = some j → j.phase.searching = false → v.job e = some j) ∧
      (∀ u, (s.term u).sameButPlace (v.term u)) ∧
      v = { s with terms := v.terms, marks := v.marks, queue := v.queue, stack := v.stack, serial := v.serial,
                   engines := v.engines, preemptPending := v.preemptPending })

/-- What an idle engine takes in the fill step, which passes over a busy one (R81), and what a grant (R82, R94, R95) and
a resume (R83) make. The evaluation is the fill step on the engines in turn and then the preemption step (R80, R89). A
preemption with room on the stack pushes the victim's context, and its engine takes the queue head (R84, R86, R113);
where a condition of R84 does not hold or the stack is full, the preemption step ends. The fields a job begins without
are those of log entries 4 and 14. -/
def Obligations.FillTakesHeadOrTop : Prop :=
  (∀ (s : State) (e : EngineId), (s.job e).isSome = true → s.fillEngine e = s) ∧
  (∀ (s : State) (e : EngineId), s.job e = none →
    (s.stack = [] → s.queue = [] → s.fillEngine e = s) ∧
    (∀ t rest, s.queue = t :: rest → t ∉ rest → (s.term t).state = .queued →
      (∀ c ∈ s.stack.head?, (s.term t).cls < c.cls) →
      ∃ (v : State) (p : Nat), s.fillEngine e = v ∧
        p = min (match (s.term t).lossPower with
          | some l => l - s.params.coarseStep
          | none => (s.term t).startPower) (s.term t).pmax ∧
        v = { s with
          terms := v.terms, marks := v.marks, queue := rest, serial := s.serial + 1, engines := v.engines } ∧
        v.terms = (s.setTerm t { s.term t with state := .active, heard := false }).terms ∧
        v.marks = (s.mark t).marks ∧
        v.engines = (s.setJob e (some
          { term := t, cls := (s.term t).cls, serial := s.serial + 1, phase := .coarse, pollPower := p
            limitCount := 0, confirmLeft := 0, pollInFlight := none, admitFrame := none, ramp := none
            settleMiss := 0, gate := some ⟨1, p, none, 0, 0, 0, 0⟩, lastSample := none, cmdFrame := none })).engines) ∧
    (∀ c below, s.stack = c :: below → (∀ t ∈ s.queue.head?, c.cls ≤ (s.term t).cls) →
      (s.term c.term).state = .suspended →
      ∃ (v : State) (p : Nat), s.fillEngine e = v ∧ p = min c.pollPower (s.term c.term).pmax ∧
        v = { s with
          terms := v.terms, marks := v.marks, stack := below, serial := s.serial + 1, engines := v.engines } ∧
        v.terms = (s.setTerm c.term { s.term c.term with state := .active }).terms ∧
        v.marks = (s.mark c.term).marks ∧
        v.engines = (s.setJob e (some
          { term := c.term, cls := c.cls, serial := s.serial + 1, phase := c.phase, pollPower := p
            limitCount := c.limitCount
            confirmLeft := if c.phase = .confirm then s.params.confirmCount else 0
            pollInFlight := none, admitFrame := none, ramp := none, settleMiss := 0
            gate := some ⟨if c.phase = .coarse then 1 else (s.term c.term).depth, p, none, 0, 0, 0, 0⟩
            lastSample := none, cmdFrame := none })).engines)) ∧
  (∀ s : State, (Work.trigger s).close = { s.evaluate with preemptPending := s.evaluate.preemptBlocked }) ∧
  (∀ s : State, s.hold = false → s.mode ≠ .outage →
    s.evaluate = preemptLoop 8 ([0, 1, 2, 3].foldl State.fillEngine s)) ∧
  (∀ (f : EngineId) (j : Job) (t : TermId) (rest : List TermId) (n : Nat) (q : State),
    q.queue = t :: rest → t ∉ rest →
    (∀ i, (q.job i).isSome = true) → q.victim = some (f, j) → (q.term t).cls < j.cls → q.stack.length < 8 →
    (q.term t).state = .queued → (q.term j.term).state = .active →
    ∃ (v : State) (p : Nat), preemptLoop (n + 1) q = preemptLoop n v ∧
      p = min (match (q.term t).lossPower with
        | some l => l - q.params.coarseStep
        | none => (q.term t).startPower) (q.term t).pmax ∧
      v = { q with
        terms := v.terms, marks := v.marks, queue := rest, serial := q.serial + 1, engines := v.engines
        stack := ⟨j.term, j.cls, j.phase, j.pollPower, j.limitCount, j.confirmLeft⟩ :: q.stack } ∧
      v.terms = ((q.setTerm j.term { q.term j.term with state := .suspended }).setTerm t
        { q.term t with state := .active, heard := false }).terms ∧
      v.marks = ((q.mark j.term).mark t).marks ∧
      v.engines = (q.setJob f (some
        { term := t, cls := (q.term t).cls, serial := q.serial + 1, phase := .coarse, pollPower := p
          limitCount := 0, confirmLeft := 0, pollInFlight := none, admitFrame := none, ramp := none
          settleMiss := 0, gate := some ⟨1, p, none, 0, 0, 0, 0⟩, lastSample := none, cmdFrame := none })).engines) ∧
  (∀ (n : Nat) (q : State),
    (∃ i, q.job i = none) ∨ q.queue = [] ∨ q.victim = none ∨ 8 ≤ q.stack.length ∨
      (∃ f j t rest, q.queue = t :: rest ∧ q.victim = some (f, j) ∧ j.cls ≤ (q.term t).cls) →
    preemptLoop n q = q)

/-- The victim of a preemption (R85): the preemptible job of the largest class, among those the one with the latest
serial, among those the one on the lowest engine; none exactly when no job is preemptible. -/
def Obligations.VictimIsLatestOfLargestClass : Prop :=
  ∀ s : State,
    (s.victim = none ↔ ∀ e j, s.job e = some j → j.phase.searching = false) ∧
    ∀ e j, s.victim = some (e, j) →
      s.job e = some j ∧ j.phase.searching = true ∧
      ∀ e' j', s.job e' = some j' → j'.phase.searching = true → e' ≠ e →
        j'.cls < j.cls ∨
        (j'.cls = j.cls ∧ (s.serial - j.serial).toNat < (s.serial - j'.serial).toNat) ∨
        (j'.cls = j.cls ∧ (s.serial - j.serial).toNat = (s.serial - j'.serial).toNat ∧ e < e')

/-! ### Frame marks -/

/-- A frame mark sets the current frame number, clears modem-silent and restarts the silence detector (R148, R150),
lowers every hold-off (R51) and every remaining life, removing the expired (R137), and makes commands effective: in
sequence those of its number (R57), on a slip all (R61). A completed frame leaves its receiver in HUNT, whatever stood
in it: log entry 9. -/
def Obligations.FrameMarkClocks : Prop :=
  ∀ (n : FrameNo) (slots : Byte) (s : State), ModeLaw s → 1 ≤ s.params.latency → s.params.latency ≤ 8 →
    ∃ v : State, exec (.frame n slots) s = .next v ∧
      v.lastFrame = n ∧ v.modemSilent = false ∧ v.silenceMs = 0 ∧ v.mlRx = ⟨.hunt, 0, [], 0⟩ ∧
      v.lossWindow = (s.lossWindow.map (· - 1)).filter (· ≠ 0) ∧ v.mode = s.mode ∧
      (∀ u, (v.term u).holdOff = (s.term u).holdOff - 1) ∧
      (n = s.lastFrame + 1 → ∀ u, (v.term u).pe = match (s.term u).pendingCmd with
        | some c => if c.effect = n then c.value else (s.term u).pe
        | none => (s.term u).pe) ∧
      (n ≠ s.lastFrame + 1 → ∀ u, (v.term u).pe = match (s.term u).pendingCmd with
        | some c => c.value
        | none => (s.term u).pe)

/-- For a terminal no engine holds a frame mark is the Power Command Unit's only work on its power: in sequence R57,
on a slip R61; its record is otherwise as before but for its place and its backoff. Each backoff is lowered by one,
and one that reaches 0 brings the terminal back: marked, unheard, QUEUED or already taken by an engine (R103). -/
def Obligations.FrameMarkOnTerminals : Prop :=
  ∀ (n : FrameNo) (slots : Byte) (s : State), CollectionsLaw s →
    ∃ v : State, exec (.frame n slots) s = .next v ∧
      (∀ u, (s.term u).state ≠ .active →
        ∃ st h b p a, v.term u = { s.term u with
            state := st, heard := h, backoff := b, holdOff := (s.term u).holdOff - 1
            pe := if p = none then ((s.term u).pendingCmd.map PowerCmd.value).getD (s.term u).pe else (s.term u).pe
            pendingCmd := p, ambigUntil := a } ∧
          (n = s.lastFrame + 1 →
            p = (s.term u).pendingCmd.filter (fun c => c.effect ≠ n) ∧
            a = (s.term u).ambigUntil.filter (fun f => f ≠ n)) ∧
          (n ≠ s.lastFrame + 1 → p = none ∧ a = none) ∧
          ((s.term u).state ≠ .backoff → b = (s.term u).backoff) ∧
          ((s.term u).state ∈ [TermState.unused, .serving, .held, .barred] →
            st = (s.term u).state ∧ h = (s.term u).heard)) ∧
      ∀ u, (s.term u).state = .backoff →
        (2 ≤ (s.term u).backoff → (v.term u).state = .backoff ∧ (v.term u).backoff = (s.term u).backoff - 1) ∧
        ((s.term u).backoff ≤ 1 →
          (v.term u).state ∈ [TermState.queued, .active, .suspended] ∧ (v.term u).backoff = 0 ∧
          (v.term u).heard = false ∧ v.marked u = true ∧ (v.term u).retries = (s.term u).retries ∧
          (v.term u).lossPower = (s.term u).lossPower ∧ (s.hold = true → u ∈ v.queue))

/-- A frame mark lowers the tick countdown of a job in SETTLE (R106), and on a slip pulls a later admit frame (R109)
and a later count-from frame of a VERIFY gate (R30) back to the mark's number; it leaves such a job otherwise as it
is. The frame from which the latest command counts is the job's field of log entry 4. -/
def Obligations.FrameMarkOnJobs : Prop :=
  ∀ (n : FrameNo) (slots : Byte) (s : State), CollectionsLaw s →
    ∃ v : State, exec (.frame n slots) s = .next v ∧
      ∀ (e : EngineId) (j : Job) (pull : FrameNo → FrameNo), s.job e = some j → j.pollInFlight = none →
        (∀ f, pull f = if 1 ≤ (f - n).toNat ∧ (f - n).toNat ≤ 32767 then n else f) →
        (∀ rp, j.phase = .settle → j.ramp = some rp → 2 ≤ rp.tick →
          v.job e = some (if n = s.lastFrame + 1 then { j with ramp := some { rp with tick := rp.tick - 1 } }
            else { j with
              ramp := some { rp with tick := rp.tick - 1 }, admitFrame := j.admitFrame.map pull, cmdFrame := some n })) ∧
        (j.phase = .verify → j.ramp = none →
          v.job e = some (if n = s.lastFrame + 1 then j
            else { j with
              gate := j.gate.map (fun g => { g with countFrom := g.countFrom.map pull }), cmdFrame := some n }))

/-- The polls of a mark are at most the smallest of the offered slots, 4 and S, they leave last and in slot order from
0, each with a new entry of countdown 8 (R117, R119, R132); every entry with time left counts down by one (R118). They
are those that the allocation gives to the state `u` the mark's other work leaves: usable slots as R119 says; first
the engines that need a poll by class and number, each with its serial, the power of its gate and its poll in flight
(R117, R120); then, where the sweep runs (R121), its candidates from the cursor on (R127) at their powers (R128),
which move the cursor; each at the lowest free tag. -/
def Obligations.FrameMarkPolls : Prop :=
  (∀ (n : FrameNo) (slots : Byte) (s : State),
    ∃ (u v : State) (before polls : List OutMsg), exec (.frame n slots) s = .next v ∧
      v.outbox = s.outbox ++ before ++ polls ∧
      polls.length ≤ min (min slots.toNat 4) s.params.slotsPerFrame ∧
      (∀ m ∈ before, ∀ k t i p, m ≠ .poll k t i p) ∧
      (∀ (i : Nat) (h : i < polls.length), ∃ k t p o,
        polls[i] = .poll k t i p ∧ v.poll k = some ⟨t, o, p, 8, false⟩) ∧
      (∀ k p, s.poll k = some p → 2 ≤ p.countdown → v.poll k = some { p with countdown := p.countdown - 1 }) ∧
      u.outbox = s.outbox ++ before ∧ u.params = s.params ∧ u.cursor = s.cursor ∧
      v = { u.allocate (min slots.toNat 4) with freeIndex := s.freeIndex + 1 }) ∧
  (∀ (u : State) (slots : Nat), ∃ (v : State) (order es : List EngineId) (cand ts : List TermId) (free : List PollTag)
      (usable : Nat) (polls : List OutMsg),
    u.allocate slots = v ∧
    order.Nodup ∧
    (∀ e, e ∈ order ↔ ∃ j, u.job e = some j ∧ j.phase.searching = true ∧ j.pollInFlight = none) ∧
    order.Pairwise (fun a b => ∀ j j', u.job a = some j → u.job b = some j' → j.cls < j'.cls ∨ (j.cls = j'.cls ∧ a < b)) ∧
    free = [0, 1, 2, 3, 4, 5, 6, 7].filter (fun k => u.poll k = none) ∧
    usable = min (min slots u.params.slotsPerFrame) free.length ∧ es = order.take usable ∧
    cand = (allTerms.drop u.cursor ++ allTerms.take u.cursor).filter (fun t =>
      (u.term t).state ∈ [TermState.queued, .backoff, .held] ∧ ∀ k, (u.poll k).all (fun p => p.owner ≠ .sweep ∨ p.term ≠ t)) ∧
    ts = (if u.mode = .outage ∨ (u.mode = .degraded ∧ u.params.sweepOn = true) then cand.take (usable - es.length) else []) ∧
    polls.length = es.length + ts.length ∧
    v = { u with
      outbox := u.outbox ++ polls, cursor := (ts.getLast?.map (fun t => t.val + 1)).getD u.cursor
      engines := v.engines, polls := v.polls } ∧
    (∀ (i : Nat) (e : EngineId) (j : Job) (k : PollTag) (p : Nat), es[i]? = some e → u.job e = some j → free[i]? = some k →
      p = (j.gate.map Gate.power).getD j.pollPower →
      polls[i]? = some (.poll k j.term i p) ∧ v.poll k = some ⟨j.term, .engine e j.serial, p, 8, false⟩ ∧
      v.job e = some { j with pollInFlight := some k }) ∧
    (∀ (i : Nat) (t : TermId) (k : PollTag) (p : Nat), ts[i]? = some t → free[es.length + i]? = some k →
      p = (if u.mode = .outage then (u.term t).pmax
        else min ((u.term t).lossPower.getD (u.term t).startPower) (u.term t).pmax) →
      polls[es.length + i]? = some (.poll k t (es.length + i) p) ∧ v.poll k = some ⟨t, .sweep, p, 8, false⟩) ∧
    (∀ e, e ∉ es → v.job e = u.job e) ∧ (∀ k, k ∉ free.take (es.length + ts.length) → v.poll k = u.poll k))

/-! ### Traffic reports -/

/-- Reports that change nothing (R147, R151): of no terminal, of an UNUSED one, of a terminal that waits, rests or is
barred, and of one an engine searches for. A rejected BURST or a MISS of a SERVING terminal below the miss limit adds
1 to its miss count, at most 15 (R65). An accepted BURST inside an ambiguity window clears the miss count (R25, R63).
A completed frame leaves its receiver in HUNT, whatever stood in it: log entry 9. -/
def Obligations.ReportsOfLittleEffect : Prop :=
  (∀ (s : State) (m errors : Byte) (b : FrameNo) (level : BitVec 16), FlagLaw s →
     (m.toNat = 0 ∨ 64 < m.toNat ∨
       (∃ t, m.toNat = numberOf t ∧
         ((s.term t).state ∈ [TermState.unused, .queued, .suspended, .backoff, .held, .barred] ∨
          ((s.term t).state = .active ∧ ∀ e j, s.job e = some j → j.term = t → j.phase.searching = true)))) →
     exec (.burst m b level errors) s = .next { s with mlRx := ⟨.hunt, 0, [], 0⟩ } ∧
     exec (.miss m b) s = .next { s with mlRx := ⟨.hunt, 0, [], 0⟩ }) ∧
  (∀ (s : State) (m errors : Byte) (b : FrameNo) (level : BitVec 16) (t : TermId), FlagLaw s →
     m.toNat = numberOf t → (s.term t).state = .serving → min ((s.term t).missCount + 1) 15 < s.params.missLimit →
     exec (.miss m b) s =
       .next { s.setTerm t { s.term t with missCount := min ((s.term t).missCount + 1) 15 } with
         mlRx := ⟨.hunt, 0, [], 0⟩ } ∧
     (s.params.errLimit < min errors.toNat 64 →
       exec (.burst m b level errors) s =
         .next { s.setTerm t { s.term t with missCount := min ((s.term t).missCount + 1) 15 } with
           mlRx := ⟨.hunt, 0, [], 0⟩ })) ∧
  (∀ (s : State) (m errors : Byte) (b a : FrameNo) (level : BitVec 16) (t : TermId), FlagLaw s →
     m.toNat = numberOf t → (s.term t).state = .serving → min errors.toNat 64 ≤ s.params.errLimit →
     (s.term t).ambigUntil = some a → 1 ≤ (a - b).toNat → (a - b).toNat ≤ 32767 →
     exec (.burst m b level errors) s =
       .next { s.setTerm t { s.term t with missCount := 0 } with mlRx := ⟨.hunt, 0, [], 0⟩ })

/-- A rejected BURST or a MISS that brings the miss count to the miss limit loses the terminal with reason MISSES
(R65); an accepted BURST whose verdict is FLOOR loses it with reason FLOOR, no profile written and no move asked for
(R47, R50, R63). Here short of an outage: WITHDRAW, the loss record, the queue, DEGRADED, and a window entry outside
OUTAGE (R67, R68, R136). A completed frame leaves its receiver in HUNT, whatever stood in it: log entry 9. -/
def Obligations.MeasurementLoses : Prop :=
  (∀ (s : State) (m errors : Byte) (b : FrameNo) (level : BitVec 16) (t : TermId) (c : Instr),
     (c = .miss m b ∨ (c = .burst m b level errors ∧ s.params.errLimit < min errors.toNat 64)) →
     m.toNat = numberOf t → (s.term t).state = .serving → s.params.missLimit ≤ min ((s.term t).missCount + 1) 15 →
     (s.mode = .outage ∨ s.lossWindow.length + 1 < s.params.quorum) →
     ∃ (v : State) (r : TermRec), exec c s = .next v ∧ r = (s.term t).completed s.lastFrame ∧
       s.joined v t { r with
         state := .queued, lossPower := some r.pe, lostAt := some s.lastFrame, lossReason := some .misses,
         foundPower := none, retries := 0, heard := false, missCount := 0 } ∧
       v.outbox = s.outbox ++ [.withdraw t] ∧
       v.lossWindow = (if s.mode = .outage then s.lossWindow else s.lossWindow ++ [s.params.windowLength]) ∧
       s.sameRest v ∧ s.samePort v ∧ v.mlRx = ⟨.hunt, 0, [], 0⟩) ∧
  (∀ (s : State) (m errors : Byte) (b : FrameNo) (level : BitVec 16) (t : TermId) (r : TermRec) (F : Nat),
     m.toNat = numberOf t → (s.term t).state = .serving → min errors.toNat 64 ≤ s.params.errLimit →
     (∀ a, (s.term t).ambigUntil = some a → ¬ (1 ≤ (a - b).toNat ∧ (a - b).toNat ≤ 32767)) →
     r = (s.term t).completed s.lastFrame →
     F = smooth s.params.alpha r.fade (fadeSample r.refLevel (r.burstPower b) (max (-480) (min level.toInt (-80)))) →
     (marginDown r.sd (downFade F s.params.ratio) < s.ladder.at 0 ∨
       (marginUp r.su r.pc F < s.ladder.at 0 ∧ r.pc = r.pmax)) →
     (s.mode = .outage ∨ s.lossWindow.length + 1 < s.params.quorum) →
     ∃ v : State, exec (.burst m b level errors) s = .next v ∧
       s.joined v t { r with
         state := .queued, fade := F, lossPower := some r.pe, lostAt := some s.lastFrame, lossReason := some .floor,
         foundPower := none, retries := 0, heard := false, missCount := 0 } ∧
       v.outbox = s.outbox ++ [.withdraw t] ∧
       v.lossWindow = (if s.mode = .outage then s.lossWindow else s.lossWindow ++ [s.params.windowLength]) ∧
       s.sameRest v ∧ s.samePort v ∧ v.mlRx = ⟨.hunt, 0, [], 0⟩)

/-- A loss by measurement that brings the window to the quorum begins an outage (R138, R139, R140): every job
abandoned with WITHDRAW for the admitted, the stack and the window emptied, every heard flag of a QUEUED terminal
cleared, and the queue rebuilt class by class from the abandoned, the heard and the unheard (R75, R77); no evaluation.
A completed frame leaves its receiver in HUNT, whatever stood in it: log entry 9. -/
def Obligations.QuorumBeginsOutage : Prop :=
  ∀ (s : State) (m errors : Byte) (b : FrameNo) (level : BitVec 16) (t : TermId) (c : Instr) (r : TermRec) (F : Nat)
    (reason : LossReason), CollectionsLaw s → m.toNat = numberOf t → (s.term t).state = .serving →
    F = smooth s.params.alpha ((s.term t).completed s.lastFrame).fade
      (fadeSample (s.term t).refLevel (((s.term t).completed s.lastFrame).burstPower b)
        (max (-480) (min level.toInt (-80)))) →
    ((reason = .misses ∧ r = (s.term t).completed s.lastFrame ∧
        (c = .miss m b ∨ (c = .burst m b level errors ∧ s.params.errLimit < min errors.toNat 64)) ∧
        s.params.missLimit ≤ min ((s.term t).missCount + 1) 15) ∨
      (reason = .floor ∧ r = { (s.term t).completed s.lastFrame with fade := F } ∧ c = .burst m b level errors ∧
        min errors.toNat 64 ≤ s.params.errLimit ∧
        (∀ a, (s.term t).ambigUntil = some a → ¬ (1 ≤ (a - b).toNat ∧ (a - b).toNat ≤ 32767)) ∧
        (marginDown r.sd (downFade F s.params.ratio) < s.ladder.at 0 ∨
          (marginUp r.su r.pc F < s.ladder.at 0 ∧ r.pc = r.pmax)))) →
    s.mode ≠ .outage → s.params.quorum ≤ s.lossWindow.length + 1 →
    ∃ (v u : State) (gone : List TermId), exec c s = .next v ∧
      u = (s.setTerm t { s.term t with state := .queued, heard := false }).joinEnd t ∧
      gone = [(0 : EngineId), 1, 2, 3].filterMap (fun e => (s.job e).map Job.term) ++ s.stack.map Context.term ∧
      v.mode = .outage ∧ v.sectorMark = true ∧ (∀ e, v.job e = none) ∧ v.stack = [] ∧ v.lossWindow = [] ∧
      v.preemptPending = false ∧ v.serial = s.serial ∧ v.polls = s.polls ∧
      v.queue = [0, 1, 2, 3].flatMap (fun c =>
        gone.filter (fun x => (s.term x).cls = c) ++
        u.queue.filter (fun x => (u.term x).cls = c ∧ (u.term x).heard = true) ++
        u.queue.filter (fun x => (u.term x).cls = c ∧ (u.term x).heard = false)) ∧
      (∀ x, x ≠ t → (s.term x).sameButPlace (v.term x) ∧
        (v.term x).state = (if x ∈ gone then .queued else (s.term x).state) ∧
        (v.term x).heard = (if (v.term x).state = .queued then false else (s.term x).heard)) ∧
      v.term t = { r with
        state := .queued, lossPower := some r.pe, lostAt := some s.lastFrame, lossReason := some reason,
        foundPower := none, retries := 0, heard := false, missCount := 0 } ∧
      (∀ x, v.marked x = (s.marked x || decide (x = t ∨ x ∈ gone))) ∧
      v.outbox = s.outbox ++ [.withdraw t] ++
        [(0 : EngineId), 1, 2, 3].filterMap (fun e =>
          (s.job e).bind (fun j => if j.phase.admitted then some (.withdraw j.term) else none)) ∧
      s.sameRest v ∧ s.samePort v ∧ v.mlRx = ⟨.hunt, 0, [], 0⟩

/-- An accepted BURST of a SERVING terminal that gives a sample and no FLOOR (R24, R25, R63, R64, R50): F smoothed,
the profiles and the hold-off of the verdict, and the tracking move where no command is pending; PROFILE before POWER;
no other terminal's record changes. A completed frame leaves its receiver in HUNT, whatever stood in it: log entry
9. -/
def Obligations.SampledBurst : Prop :=
  ∀ (s : State) (m errors : Byte) (b : FrameNo) (level : BitVec 16) (t : TermId) (up down : Nat) (upgraded : Bool)
    (r r₁ : TermRec) (F target move : Nat) (f : FrameNo),
    PowerLaw s → 1 ≤ s.params.trackStep →
    m.toNat = numberOf t → (s.term t).state = .serving → min errors.toNat 64 ≤ s.params.errLimit →
    (∀ a, (s.term t).ambigUntil = some a → ¬ (1 ≤ (a - b).toNat ∧ (a - b).toNat ≤ 32767)) →
    r = (s.term t).completed s.lastFrame →
    F = smooth s.params.alpha r.fade (fadeSample r.refLevel (r.burstPower b) (max (-480) (min level.toInt (-80)))) →
    servingVerdict s.ladder { r with fade := F } (marginDown r.sd (downFade F s.params.ratio))
      (marginUp r.su r.pc F) = .pair up down upgraded →
    r₁ = { r with fade := F, missCount := 0, up := up, down := down,
                  holdOff := if upgraded then s.params.holdOffLoad else r.holdOff } →
    target = powerTarget F s.params.allowance r.pmax →
    move = (if r.pc < target then r.pc + min (target - r.pc) s.params.trackStep
            else r.pc - min (r.pc - target) s.params.trackStep) →
    f = s.lastFrame + BitVec.ofNat 16 s.params.latency →
    ∃ v : State, exec (.burst m b level errors) s = .next v ∧
      (∀ u, u ≠ t → v.term u = s.term u) ∧
      (r.pendingCmd.isSome = true ∨ (target - r.pc) + (r.pc - target) ≤ s.params.deadband →
        v.term t = r₁ ∧
        v.outbox = s.outbox ++ (if r.up = up ∧ r.down = down then [] else [.profile t up down])) ∧
      (r.pendingCmd = none → s.params.deadband < (target - r.pc) + (r.pc - target) →
        v.term t = { r₁ with pc := move, pendingCmd := some ⟨move, f⟩ } ∧
        v.outbox = s.outbox ++ (if r.up = up ∧ r.down = down then [] else [.profile t up down]) ++
          [.power t move f]) ∧
      (∀ u, v.marked u = (s.marked u || decide (u = t ∧ ¬ (r.up = up ∧ r.down = down)))) ∧
      (s.engineOf t = none → v.engines = s.engines) ∧ v.preemptPending = v.preemptBlocked ∧
      v.queue = s.queue ∧ v.stack = s.stack ∧ v.serial = s.serial ∧ v.polls = s.polls ∧ v.mode = s.mode ∧
      v.sectorMark = s.sectorMark ∧ v.lossWindow = s.lossWindow ∧ s.sameRest v ∧ s.samePort v ∧
      v.mlRx = ⟨.hunt, 0, [], 0⟩

/-- Reports in SETTLE (R109): earlier than the admit frame nothing; an accepted BURST clears the SETTLE miss count; a
rejected BURST or a MISS raises it, and below the miss limit that is all. Reports in VERIFY (R30): earlier than the
count-from frame nothing; else a BURST counts as a response, whether accepted or not, and a MISS as 64 errors, and
below the depth that is all. A completed frame leaves its receiver in HUNT, whatever stood in it: log entry 9. -/
def Obligations.AdmittedReportsCount : Prop :=
  (∀ (s : State) (m errors : Byte) (b a : FrameNo) (level : BitVec 16) (t : TermId) (e : EngineId) (j : Job), FlagLaw s →
     m.toNat = numberOf t → s.holds t e j → j.phase = .settle → j.admitFrame = some a →
     (1 ≤ (a - b).toNat ∧ (a - b).toNat ≤ 32767 →
       exec (.burst m b level errors) s = .next { s with mlRx := ⟨.hunt, 0, [], 0⟩ } ∧
       exec (.miss m b) s = .next { s with mlRx := ⟨.hunt, 0, [], 0⟩ }) ∧
     (¬ (1 ≤ (a - b).toNat ∧ (a - b).toNat ≤ 32767) →
       (min errors.toNat 64 ≤ s.params.errLimit →
         exec (.burst m b level errors) s =
           .next { s.setJob e (some { j with settleMiss := 0 }) with mlRx := ⟨.hunt, 0, [], 0⟩ }) ∧
       (min (j.settleMiss + 1) 15 < s.params.missLimit →
         exec (.miss m b) s =
           .next { s.setJob e (some { j with settleMiss := min (j.settleMiss + 1) 15 }) with
             mlRx := ⟨.hunt, 0, [], 0⟩ } ∧
         (s.params.errLimit < min errors.toNat 64 →
           exec (.burst m b level errors) s =
             .next { s.setJob e (some { j with settleMiss := min (j.settleMiss + 1) 15 }) with
               mlRx := ⟨.hunt, 0, [], 0⟩ })))) ∧
  (∀ (s : State) (m errors : Byte) (b c : FrameNo) (level : BitVec 16) (t : TermId) (e : EngineId) (j : Job) (g : Gate),
     FlagLaw s → m.toNat = numberOf t → s.holds t e j → j.phase = .verify → j.gate = some g → g.countFrom = some c →
     (1 ≤ (c - b).toNat ∧ (c - b).toNat ≤ 32767 →
       exec (.burst m b level errors) s = .next { s with mlRx := ⟨.hunt, 0, [], 0⟩ } ∧
       exec (.miss m b) s = .next { s with mlRx := ⟨.hunt, 0, [], 0⟩ }) ∧
     (¬ (1 ≤ (c - b).toNat ∧ (c - b).toNat ≤ 32767) → g.counted + 1 < g.depth →
       exec (.burst m b level errors) s =
         .next { s.setJob e (some { j with gate := some { g with
             counted := g.counted + 1, responses := g.responses + 1, errorTotal := g.errorTotal + min errors.toNat 64
             levelSum := g.levelSum + max (-480) (min level.toInt (-80)) } }) with mlRx := ⟨.hunt, 0, [], 0⟩ } ∧
       exec (.miss m b) s =
         .next { s.setJob e (some { j with gate := some { g with
             counted := g.counted + 1, errorTotal := g.errorTotal + 64 } }) with mlRx := ⟨.hunt, 0, [], 0⟩ }))

/-- A VERIFY gate completed by a BURST or a MISS and judged ACCEPTED with neither direction below floor hands the
terminal back to SERVING on its entry profiles (R31, R33, R52, R53, R112). A completed frame leaves its receiver in
HUNT, whatever stood in it: log entry 9. -/
def Obligations.VerifyHandsBack : Prop :=
  ∀ (s : State) (m errors : Byte) (b : FrameNo) (level : BitVec 16) (t : TermId) (e : EngineId) (j : Job) (g g' : Gate)
    (c : Instr) (F : Nat) (md mu : Int) (up down : Nat),
    CollectionsLaw s → m.toNat = numberOf t → s.holds t e j → j.phase = .verify → j.gate = some g →
    (∀ k, g.countFrom = some k → ¬ (1 ≤ (k - b).toNat ∧ (k - b).toNat ≤ 32767)) →
    ((c = .burst m b level errors ∧ g' = g.count (some (receivedResponse level errors))) ∨
      (c = .miss m b ∧ g' = g.count none)) →
    g'.depth ≤ g'.counted → 1 ≤ g'.responses → g'.errorTotal ≤ g'.depth * s.params.errLimit →
    F = smooth s.params.alpha (s.term t).fade (fadeSample (s.term t).refLevel g'.power (g'.levelSum.fdiv g'.responses)) →
    md = marginDown (s.term t).sd (downFade F s.params.ratio) → mu = marginUp (s.term t).su g'.power F →
    ¬ (md < s.ladder.at 0) → ¬ (mu < s.ladder.at 0 ∧ (s.term t).pc = (s.term t).pmax) →
    up = entryProfile s.ladder mu → down = entryProfile s.ladder md →
    ∃ v : State, exec c s = .next v ∧
      v.term t = { s.term t with
        state := .serving, fade := F, up := up, down := down, holdOff := s.params.holdOffLoad, missCount := 0
        lossPower := none, lostAt := none, lossReason := none } ∧
      v.outbox = s.outbox ++ [.profile t up down] ∧ v.marked t = true ∧
      (∀ e' j', v.job e' = some j' → j'.term ≠ t) ∧
      (∀ u, u ≠ t → (s.term u).sameButPlace (v.term u)) ∧
      v.mode = (if ∀ u, u ≠ t → (s.term u).state.waiting = false then .clear else s.mode) ∧
      v.sectorMark = (s.sectorMark || decide (v.mode ≠ s.mode)) ∧
      v.closedFrom (.trigger { s with
        terms := (s.setTerm t (v.term t)).terms, marks := (s.mark t).marks
        engines := (s.setJob e none).engines, mode := v.mode }) ∧
      v.polls = s.polls ∧ v.lossWindow = s.lossWindow ∧ s.sameRest v ∧ s.samePort v ∧ v.mlRx = ⟨.hunt, 0, [], 0⟩

/-- The return of an admitted job to FINE (R110): from SETTLE at the miss limit with a poll power of Pc (R109), from a
HEARD or SILENT VERIFY gate with Pc + Fs (R112). The limit count is raised at the ceiling, WITHDRAW is sent, a FINE
gate begins. The job field the latest command counts from is log entry 4. A completed frame leaves its receiver in
HUNT, whatever stood in it: log entry 9. -/
def Obligations.AdmittedReturnsToFine : Prop :=
  ∀ (s : State) (m errors : Byte) (b : FrameNo) (level : BitVec 16) (t : TermId) (e : EngineId) (j : Job) (c : Instr)
    (o : Option Response) (limit power miss : Nat),
    m.toNat = numberOf t → s.holds t e j →
    ((c = .burst m b level errors ∧ o = some (receivedResponse level errors)) ∨ (c = .miss m b ∧ o = none)) →
    (j.phase = .settle ∧ (∀ a, j.admitFrame = some a → ¬ (1 ≤ (a - b).toNat ∧ (a - b).toNat ≤ 32767)) ∧
        (∀ x, o = some x → s.params.errLimit < x.errors) ∧ miss = min (j.settleMiss + 1) 15 ∧
        s.params.missLimit ≤ miss ∧ power = (s.term t).pc ∨
      j.phase = .verify ∧ miss = j.settleMiss ∧ power = (s.term t).pc + s.params.fineStep ∧
        ∃ g, j.gate = some g ∧ (∀ k, g.countFrom = some k → ¬ (1 ≤ (k - b).toNat ∧ (k - b).toNat ≤ 32767)) ∧
          (g.count o).depth ≤ (g.count o).counted ∧
          ((g.count o).responses = 0 ∨ (g.count o).depth * s.params.errLimit < (g.count o).errorTotal)) →
    limit = (if (s.term t).pmax ≤ (s.term t).pc then j.limitCount + 1 else j.limitCount) →
    ((s.term t).pc < (s.term t).pmax ∨ limit < s.params.limitPolls) →
    ∃ v : State, exec c s = .next v ∧
      v.job e = some { j with
        phase := .fine, pollPower := min power (s.term t).pmax, limitCount := limit, admitFrame := none, ramp := none
        settleMiss := miss, cmdFrame := none
        gate := some ⟨(s.term t).depth, min power (s.term t).pmax, none, 0, 0, 0, 0⟩ } ∧
      v.outbox = s.outbox ++ [.withdraw t] ∧ v.terms = s.terms ∧ v.marks = s.marks ∧ v.queue = s.queue ∧
      v.stack = s.stack ∧ v.polls = s.polls ∧ v.mode = s.mode ∧ v.lossWindow = s.lossWindow ∧
      v.serial = s.serial ∧ v.sectorMark = s.sectorMark ∧ (∀ e', e' ≠ e → v.job e' = s.job e') ∧
      v.preemptPending = v.preemptBlocked ∧ s.sameRest v ∧ s.samePort v ∧ v.mlRx = ⟨.hunt, 0, [], 0⟩

/-! ### Polls -/

/-- Poll results that change nothing but, where they name an entry, free it (R122, R123, R129, R147). An outcome for a
waiting job frees the entry, ends its poll in flight and counts in its gate: a response with its level and errors as
clamped, a SILENT result as 64 errors; short of the depth that is all (R29, R96, R123). A completed frame leaves its
receiver in HUNT, whatever stood in it: log entry 9. -/
def Obligations.PollOutcomes : Prop :=
  (∀ (s : State) (tag outcome errors : Byte) (level : BitVec 16), FlagLaw s →
     (7 < tag.toNat ∨ 1 < outcome.toNat ∨ (∃ k : PollTag, tag.toNat = k.val ∧ s.poll k = none) →
       exec (.pollResult tag outcome level errors) s = .next { s with mlRx := ⟨.hunt, 0, [], 0⟩ }) ∧
     (∀ (k : PollTag) (p : PollEntry), tag.toNat = k.val → outcome.toNat ≤ 1 → s.poll k = some p →
       (p.stale = true ∨
        (∃ e n, p.owner = .engine e n ∧ ∀ j, s.job e = some j → j.serial ≠ n) ∨
        (p.owner = .sweep ∧ (outcome.toNat = 0 ∨
          (s.term p.term).state ∈ [TermState.unused, .serving, .active, .suspended, .barred]))) →
       exec (.pollResult tag outcome level errors) s =
         .next { s.setPoll k none with mlRx := ⟨.hunt, 0, [], 0⟩ })) ∧
  (∀ (s : State) (tag errors : Byte) (level : BitVec 16) (k : PollTag) (e : EngineId) (j : Job) (g : Gate), FlagLaw s →
     tag.toNat = k.val → s.awaits k e j g → g.counted + 1 < g.depth →
     exec (.pollResult tag 0x01 level errors) s =
       .next { (s.setPoll k none).setJob e (some { j with pollInFlight := none, gate := some { g with
           counted := g.counted + 1, responses := g.responses + 1, errorTotal := g.errorTotal + min errors.toNat 64
           levelSum := g.levelSum + max (-480) (min level.toInt (-80)) } }) with mlRx := ⟨.hunt, 0, [], 0⟩ } ∧
     exec (.pollResult tag 0x00 level errors) s =
       .next { (s.setPoll k none).setJob e (some { j with pollInFlight := none, gate := some { g with
           counted := g.counted + 1, errorTotal := g.errorTotal + 64 } }) with mlRx := ⟨.hunt, 0, [], 0⟩ })

/-- A search gate completed, the job staying in the search (R31, R97, R98, R99). Not ACCEPTED: the limit count rises
at the ceiling, phase and poll power move by the table, and a new gate begins. ACCEPTED with CONFIRM gates left to
gather: N − 1 of them on entry, one fewer in CONFIRM, at the same power, and the gate sample is the last sample. A
completed frame leaves its receiver in HUNT, whatever stood in it: log entry 9. A fall from CONFIRM keeps the
confirmation remaining: log entry 16. -/
def Obligations.SearchGateJudged : Prop :=
  (∀ (s : State) (tag outcome errors : Byte) (level : BitVec 16) (k : PollTag) (e : EngineId) (j : Job) (g g' : Gate)
     (o : Option Response) (r : TermRec) (limit power : Nat) (phase : Phase), FlagLaw s →
     tag.toNat = k.val → pollOutcomeOf outcome level errors = some o → s.awaits k e j g → g' = g.count o →
     g'.depth ≤ g'.counted → (g'.responses = 0 ∨ g'.depth * s.params.errLimit < g'.errorTotal) →
     r = s.term j.term →
     limit = (if r.pmax ≤ g'.power then j.limitCount + 1 else j.limitCount) →
     (g'.power < r.pmax ∨ limit < s.params.limitPolls) →
     phase = (if j.phase = .coarse ∧ g'.responses = 0 then .coarse else .fine) →
     power = (if j.phase = .coarse then
         (if g'.responses = 0 then min (g'.power + s.params.coarseStep) r.pmax else g'.power)
       else min (g'.power + s.params.fineStep) r.pmax) →
     exec (.pollResult tag outcome level errors) s =
       .next { (s.setPoll k none).setJob e (some { j with
           pollInFlight := none, phase := phase, limitCount := limit, pollPower := min power r.pmax
           gate := some ⟨if phase = .coarse then 1 else r.depth, min power r.pmax, none, 0, 0, 0, 0⟩ }) with
         mlRx := ⟨.hunt, 0, [], 0⟩ }) ∧
  (∀ (s : State) (tag outcome errors : Byte) (level : BitVec 16) (k : PollTag) (e : EngineId) (j : Job) (g g' : Gate)
     (o : Option Response) (r : TermRec) (left : Nat), FlagLaw s →
     tag.toNat = k.val → pollOutcomeOf outcome level errors = some o → s.awaits k e j g → g' = g.count o →
     g'.depth ≤ g'.counted → 1 ≤ g'.responses → g'.errorTotal ≤ g'.depth * s.params.errLimit →
     r = s.term j.term → left = (if j.phase = .confirm then j.confirmLeft - 1 else s.params.confirmCount - 1) →
     1 ≤ left →
     exec (.pollResult tag outcome level errors) s =
       .next { (s.setPoll k none).setJob e (some { j with
           pollInFlight := none, phase := .confirm, confirmLeft := left, pollPower := min g'.power r.pmax
           lastSample := some (fadeSample r.refLevel g'.power (g'.levelSum.fdiv g'.responses))
           gate := some ⟨r.depth, min g'.power r.pmax, none, 0, 0, 0, 0⟩ }) with mlRx := ⟨.hunt, 0, [], 0⟩ })

/-- The end of CONFIRM (R37, R59, R100, R105): found power, F set from the gate sample, ADMIT with profiles 0 and 0,
and SETTLE with its ramp, or VERIFY at once where the target is the found power (R111). The job field the latest
command counts from is log entry 4, the last sample let go is log entry 14. A completed frame leaves its receiver in
HUNT, whatever stood in it: log entry 9. -/
def Obligations.ConfirmAdmits : Prop :=
  ∀ (s : State) (tag outcome errors : Byte) (level : BitVec 16) (k : PollTag) (e : EngineId) (j : Job) (g g' : Gate)
    (o : Option Response) (r : TermRec) (found fu target : Nat) (f : FrameNo),
    tag.toNat = k.val → pollOutcomeOf outcome level errors = some o → s.awaits k e j g → g' = g.count o →
    g'.depth ≤ g'.counted → 1 ≤ g'.responses → g'.errorTotal ≤ g'.depth * s.params.errLimit →
    r = (s.term j.term).completed s.lastFrame →
    (if j.phase = .confirm then j.confirmLeft - 1 else s.params.confirmCount - 1) = 0 →
    found = min g'.power r.pmax → fu = fadeSample r.refLevel g'.power (g'.levelSum.fdiv g'.responses) →
    f = s.lastFrame + BitVec.ofNat 16 s.params.latency →
    target = min (max (min (fu - s.params.allowance) r.pmax) found) r.pmax →
    ∃ (v : State) (j' : Job), exec (.pollResult tag outcome level errors) s = .next v ∧
      v.term j.term = { r with
        foundPower := some found, fade := fu, pc := found, pendingCmd := some ⟨found, f⟩
        ambigUntil := if r.pendingCmd.isSome then some f else r.ambigUntil, up := 0, down := 0 } ∧
      v.outbox = s.outbox ++ [.admission j.term found f 0 0] ∧ v.polls = (s.setPoll k none).polls ∧
      (∀ u, v.marked u = (s.marked u || decide (u = j.term ∧ ¬ (r.up = 0 ∧ r.down = 0)))) ∧
      j' = { j with
        confirmLeft := 0, pollPower := g'.power, pollInFlight := none, lastSample := none, settleMiss := 0
        admitFrame := some f, cmdFrame := some f, phase := if target = found then .verify else .settle
        ramp := if target = found then none
          else some ⟨target, s.params.slowStep, .still, max s.params.rampInterval s.params.latency⟩
        gate := if target = found then some ⟨r.depth, found, some f, 0, 0, 0, 0⟩ else none } ∧
      v.job e = some j' ∧ (∀ e', e' ≠ e → v.job e' = s.job e') ∧ (∀ u, u ≠ j.term → v.term u = s.term u) ∧
      v.queue = s.queue ∧ v.stack = s.stack ∧ v.serial = s.serial ∧ v.preemptPending = v.preemptBlocked ∧
      v.mode = s.mode ∧ v.sectorMark = s.sectorMark ∧ v.lossWindow = s.lossWindow ∧ s.sameRest v ∧ s.samePort v ∧
      v.mlRx = ⟨.hunt, 0, [], 0⟩

/-- Exhaustion (R101, R102). A search gate not ACCEPTED at the ceiling that raises the limit count to Lq (R98); an
admitted job returning to FINE with Pc at Pmax and the limit count raised to Lq (R110), from SETTLE or VERIFY; and a
VERIFY gate ACCEPTED with a direction below floor (R53). Retries are raised, the terminal is in BACKOFF or HELD, an
admitted one is withdrawn, the job is dropped. A completed frame leaves its receiver in HUNT, whatever stood in it:
log entry 9. -/
def Obligations.JobsExhaust : Prop :=
  (∀ (s : State) (tag outcome errors : Byte) (level : BitVec 16) (k : PollTag) (e : EngineId) (j : Job) (g g' : Gate)
     (o : Option Response), CollectionsLaw s →
     tag.toNat = k.val → pollOutcomeOf outcome level errors = some o → s.awaits k e j g → g' = g.count o →
     g'.depth ≤ g'.counted → (g'.responses = 0 ∨ g'.depth * s.params.errLimit < g'.errorTotal) →
     (s.term j.term).pmax ≤ g'.power → s.params.limitPolls ≤ j.limitCount + 1 →
     ∃ v : State, exec (.pollResult tag outcome level errors) s = .next v ∧ s.exhausted v e j (s.term j.term) ∧
       v.polls = (s.setPoll k none).polls) ∧
  (∀ (s : State) (m errors : Byte) (b : FrameNo) (level : BitVec 16) (t : TermId) (e : EngineId) (j : Job) (c : Instr)
     (o : Option Response), CollectionsLaw s →
     m.toNat = numberOf t → s.holds t e j →
     ((c = .burst m b level errors ∧ o = some (receivedResponse level errors)) ∨ (c = .miss m b ∧ o = none)) →
     (j.phase = .settle ∧ (∀ a, j.admitFrame = some a → ¬ (1 ≤ (a - b).toNat ∧ (a - b).toNat ≤ 32767)) ∧
         (∀ x, o = some x → s.params.errLimit < x.errors) ∧ s.params.missLimit ≤ min (j.settleMiss + 1) 15 ∨
       j.phase = .verify ∧
         ∃ g, j.gate = some g ∧ (∀ k, g.countFrom = some k → ¬ (1 ≤ (k - b).toNat ∧ (k - b).toNat ≤ 32767)) ∧
           (g.count o).depth ≤ (g.count o).counted ∧
           ((g.count o).responses = 0 ∨ (g.count o).depth * s.params.errLimit < (g.count o).errorTotal)) →
     (s.term t).pmax ≤ (s.term t).pc → s.params.limitPolls ≤ j.limitCount + 1 →
     ∃ v : State, exec c s = .next v ∧ s.exhausted v e j (s.term t) ∧ v.polls = s.polls) ∧
  (∀ (s : State) (m errors : Byte) (b : FrameNo) (level : BitVec 16) (t : TermId) (e : EngineId) (j : Job) (g g' : Gate)
     (c : Instr) (F : Nat), CollectionsLaw s →
     m.toNat = numberOf t → s.holds t e j → j.phase = .verify → j.gate = some g →
     (∀ k, g.countFrom = some k → ¬ (1 ≤ (k - b).toNat ∧ (k - b).toNat ≤ 32767)) →
     ((c = .burst m b level errors ∧ g' = g.count (some (receivedResponse level errors))) ∨
       (c = .miss m b ∧ g' = g.count none)) →
     g'.depth ≤ g'.counted → 1 ≤ g'.responses → g'.errorTotal ≤ g'.depth * s.params.errLimit →
     F = smooth s.params.alpha (s.term t).fade
       (fadeSample (s.term t).refLevel g'.power (g'.levelSum.fdiv g'.responses)) →
     (marginDown (s.term t).sd (downFade F s.params.ratio) < s.ladder.at 0 ∨
       (marginUp (s.term t).su g'.power F < s.ladder.at 0 ∧ (s.term t).pc = (s.term t).pmax)) →
     ∃ v : State, exec c s = .next v ∧ s.exhausted v e j { s.term t with fade := F } ∧ v.polls = s.polls)

/-- A sweep response of a waiting terminal makes it heard (R76, R129, R130) and ends an outage (R131, R142); it sends
nothing and takes no sample (R26). It joins the end of its heard group, and the arbiter evaluates. A completed frame
leaves its receiver in HUNT, whatever stood in it: log entry 9. -/
def Obligations.SweepHears : Prop :=
  ∀ (s : State) (tag errors : Byte) (level : BitVec 16) (k : PollTag) (p : PollEntry) (t : TermId) (r : TermRec),
    CollectionsLaw s → tag.toNat = k.val → s.poll k = some p → p.owner = .sweep → p.stale = false → p.term = t →
    ((s.term t).state = .queued ∨ (s.term t).state = .backoff ∨ (s.term t).state = .held) →
    r = { s.term t with
      state := .queued, heard := true
      backoff := if (s.term t).state = .backoff then 0 else (s.term t).backoff
      retries := if (s.term t).state = .held then 0 else (s.term t).retries } →
    ∃ v : State, exec (.pollResult tag 0x01 level errors) s = .next v ∧
      r.sameButPlace (v.term t) ∧ (v.term t).state ∈ [TermState.queued, .active, .suspended] ∧
      (∀ u, u ≠ t → (s.term u).sameButPlace (v.term u)) ∧
      v.outbox = s.outbox ∧ v.polls = (s.setPoll k none).polls ∧ v.lossWindow = s.lossWindow ∧
      v.mode = (if s.mode = .outage then .degraded else if s.mode = .clear ∧ (s.term t).state ≠ .queued then .degraded
        else s.mode) ∧
      ((s.term t).state ≠ .queued → v.marked t = true) ∧
      v.sectorMark = (s.sectorMark || decide (v.mode ≠ s.mode)) ∧
      v.closedFrom
        ⟨{ s with
            terms := (s.setTerm t r).terms
            marks := if (s.term t).state = .queued then s.marks else (s.mark t).marks
            queue := if (s.term t).state = .queued ∧ (s.term t).heard = true then s.queue
              else (((s.leaveQueue t).setTerm t r).joinEnd t).queue
            mode := v.mode },
          decide (¬ ((s.term t).state = .queued ∧ (s.term t).heard = true) ∨ s.mode = .outage)⟩ ∧
      (s.hold = true → ¬ ((s.term t).state = .queued ∧ (s.term t).heard = true) →
        ∃ (before after : List TermId), before ++ after = s.queue.filter (· ≠ t) ∧ v.queue = before ++ t :: after ∧
          (∀ u ∈ before, (s.term u).cls < r.cls ∨ ((s.term u).cls = r.cls ∧ (s.term u).heard = true)) ∧
          (∀ u ∈ after.head?, r.cls < (s.term u).cls ∨ (r.cls = (s.term u).cls ∧ (s.term u).heard = false))) ∧
      s.sameRest v ∧ s.samePort v ∧ v.mlRx = ⟨.hunt, 0, [], 0⟩

/-! ### Ends of operations, the clock, the transmitter -/

/-- A ramp tick (R107, R108) of an engine whose countdown is spent: VERIFY at distance 0, a skip while a command is
pending, else a POWER of min(s, d) toward the target, at most Lf, and VERIFY when it is reached. The frame that the
latest command counts from is the job's field of log entry 4. -/
def Obligations.RampTicks : Prop :=
  ∀ (s : State) (e : EngineId) (j : Job) (rp : Ramp) (r : TermRec) (target d size pc' step : Nat) (f : FrameNo)
    (dir : StepDir),
    PowerLaw s → SectorLaw s → s.job e = some j → s.engineOf j.term = some e → j.phase = .settle → j.ramp = some rp →
    rp.tick = 0 → r = s.term j.term →
    target = min (max (min (r.fade - s.params.allowance) r.pmax) (r.foundPower.getD 0)) r.pmax →
    d = (target - r.pc) + (r.pc - target) →
    dir = (if r.pc < target then .up else .down) →
    step = (if (dir = .up ∧ rp.dir = .down) ∨ (dir = .down ∧ rp.dir = .up) then s.params.slowStep else rp.step) →
    size = max s.params.slowStep (min step s.params.fastStep) →
    pc' = (if r.pc < target then r.pc + min size d else r.pc - min size d) →
    f = s.lastFrame + BitVec.ofNat 16 s.params.latency →
    (d = 0 → exec (.rampTick e) s = .next (s.setJob e (some { j with
      phase := .verify, ramp := none, gate := some ⟨r.depth, r.pc, j.cmdFrame, 0, 0, 0, 0⟩ }))) ∧
    (1 ≤ d → (r.completed s.lastFrame).pendingCmd.isSome = true →
      exec (.rampTick e) s = .next (s.setJob e (some { j with
        ramp := some ⟨target, step, rp.dir, max s.params.rampInterval s.params.latency⟩ }))) ∧
    (1 ≤ d → (r.completed s.lastFrame).pendingCmd = none →
      ∃ (v : State) (j' : Job), exec (.rampTick e) s = .next v ∧
        v.term j.term = { r.completed s.lastFrame with pc := pc', pendingCmd := some ⟨pc', f⟩ } ∧
        (∀ u, u ≠ j.term → v.term u = s.term u) ∧ v.outbox = s.outbox ++ [.power j.term pc' f] ∧
        (pc' - r.pc) + (r.pc - pc') ≤ s.params.fastStep ∧
        v.job e = some j' ∧
        (d ≤ size → j' = { j with
          cmdFrame := some f, phase := .verify, ramp := none, gate := some ⟨r.depth, pc', some f, 0, 0, 0, 0⟩ }) ∧
        (size < d → j' = { j with
          cmdFrame := some f
          ramp := some ⟨target,
            if d - size ≤ size * (size - 1) / 2 then max (size - 1) s.params.slowStep
            else min (size + 1) s.params.fastStep,
            dir, max s.params.rampInterval s.params.latency⟩ }) ∧
        (∀ e', e' ≠ e → v.job e' = s.job e') ∧ v.marks = s.marks ∧ v.queue = s.queue ∧ v.stack = s.stack ∧
        v.polls = s.polls ∧ v.mode = s.mode ∧ v.sectorMark = s.sectorMark ∧ v.lossWindow = s.lossWindow ∧
        v.serial = s.serial ∧ v.preemptPending = s.preemptPending ∧ v.mlRx = s.mlRx ∧ s.sameRest v ∧ s.samePort v)

/-- A command whose effect frame is the current frame is in force, a window whose frame it is closes (R57), spent
lives leave the loss window (R137), the silence flag is set (R150), the message sent leaves the list (R153), and a
poll whose countdown is spent times out as a POLL RESULT with outcome SILENT of its tag (R118). Elsewhere
COMMAND_EFFECTIVE, AMBIGUITY_WINDOW_CLOSE, RAMP_TICK and POLL_TIMEOUT change nothing: the model's reading of these
rows, log entry 6. MODEM_SILENT sets the flag in every state: log entry 10. -/
def Obligations.EndsOfOperations : Prop :=
  (∀ (s : State) (t : TermId),
     (∀ c, (s.term t).pendingCmd = some c → c.effect = s.lastFrame →
       exec (.commandEffective t) s = .next (s.setTerm t { s.term t with pe := c.value, pendingCmd := none })) ∧
     ((∀ c, (s.term t).pendingCmd = some c → c.effect ≠ s.lastFrame) → exec (.commandEffective t) s = .next s) ∧
     ((s.term t).ambigUntil = some s.lastFrame →
       exec (.ambiguityWindowClose t) s = .next (s.setTerm t { s.term t with ambigUntil := none })) ∧
     ((s.term t).ambigUntil ≠ some s.lastFrame → exec (.ambiguityWindowClose t) s = .next s) ∧
     (∀ e, (∀ j rp, s.job e = some j → j.phase = .settle → j.ramp = some rp → rp.tick ≠ 0) →
       exec (.rampTick e) s = .next s) ∧
     exec .lossWindowExpiry s = .next { s with lossWindow := s.lossWindow.filter (· ≠ 0) } ∧
     exec .modemSilent s = .next { s with modemSilent := true, silenceMs := 16 } ∧
     (∀ m rest, s.outbox = m :: rest → exec .outboundMessageSent s = .next { s with outbox := rest })) ∧
  (∀ (s : State) (k : PollTag) (errors : Byte) (level : BitVec 16), s.mlRx = ⟨.hunt, 0, [], 0⟩ →
    (∀ p, s.poll k = some p → p.countdown = 0 →
      ∃ v : State, exec (.pollTimeout k) s = .next v ∧ v.poll k = none ∧
        exec (.pollResult (byteOf k.val) 0x00 level errors) s = .next v) ∧
    ((∀ p, s.poll k = some p → p.countdown ≠ 0) → exec (.pollTimeout k) s = .next s))

/-! ### The arithmetic -/

/-- The smoothing of a sample into F by its four steps; F moves toward the sample, never passes it, and reaches it
from a difference of one (R35). -/
def Obligations.SmoothingMovesTowardSample : Prop :=
  ∀ α F fu : Nat, 1 ≤ α → α ≤ 8 → F ≤ 240 → fu ≤ 240 →
    ∃ q step : Int, q = Int.tdiv (((fu : Int) - F) * α) 8 ∧
      step = (if q = 0 ∧ F < fu then 1 else if q = 0 ∧ fu < F then -1 else q) ∧
      (smooth α F fu : Int) = max 0 (min (F + step) 240) ∧ (smooth α F fu : Int) = F + step ∧
      (F ≤ fu → F ≤ smooth α F fu ∧ smooth α F fu ≤ fu) ∧ (fu ≤ F → fu ≤ smooth α F fu ∧ smooth α F fu ≤ F) ∧
      (F ≠ fu → smooth α F fu ≠ F) ∧ (α = 8 → smooth α F fu = fu)

/-- Samples, gate levels, the margins and the figures of a fade on whole numbers (R22, R32, R41, R43, R44, R102), and
the power a burst was sent at, Pe before the pending command's effect frame and its value from it on (R24). -/
def Obligations.FadeFigures : Prop :=
  (∀ (ref m : Int) (p : Nat), (fadeSample ref p m : Int) = max 0 (min (ref + p - m) 240)) ∧
  (∀ g : Gate, 1 ≤ g.responses →
    g.level * g.responses ≤ g.levelSum ∧ g.levelSum < (g.level + 1) * g.responses) ∧
  (∀ fade allowance pmax : Nat,
    (powerTarget fade allowance pmax : Int) = max 0 (min ((fade : Int) - allowance) pmax)) ∧
  (∀ fade ratio : Nat, downFade fade ratio ≤ 255 ∧
    (fade * ratio ≤ 4087 →
      16 * downFade fade ratio ≤ fade * ratio + 8 ∧ fade * ratio + 8 < 16 * downFade fade ratio + 16) ∧
    (4087 < fade * ratio → downFade fade ratio = 255)) ∧
  (∀ base retries : Nat, 8 ≤ base → base ≤ 4096 → 1 ≤ retries →
    backoffFrames base retries = min (base * 2 ^ (min (retries - 1) 5)) 65535 ∧ 8 ≤ backoffFrames base retries ∧
    backoffFrames base retries ≤ 65535) ∧
  (∀ sd su pc fade fd : Nat, marginDown sd fd = (sd : Int) - fd ∧ marginUp su pc fade = (su : Int) + pc - fade) ∧
  (∀ (r : TermRec) (b : FrameNo),
    (r.pendingCmd = none → r.burstPower b = r.pe) ∧
    (∀ c, r.pendingCmd = some c → r.burstPower b =
      if 1 ≤ (c.effect - b).toNat ∧ (c.effect - b).toNat ≤ 32767 then r.pe else c.value))

/-- The serving update of one direction on an increasing ladder: below its threshold it falls at once to the highest
profile the margin holds, or 0 (R48); else with the hold-off run out it rises by exactly one when that profile is met
with the hysteresis (R49); and the entry profile is the highest met with the hysteresis, or 0 (R52). The serving
verdict is FLOOR exactly when a direction is below floor (R47), else the pair of the two updates with one load of the
hold-off (R50). -/
def Obligations.ProfileChoices : Prop :=
  (∀ (l : Ladder) (r : TermRec) (md mu : Int),
    (md < l.at 0 ∨ (mu < l.at 0 ∧ r.pc = r.pmax) → servingVerdict l r md mu = .floor) ∧
    (¬ (md < l.at 0 ∨ (mu < l.at 0 ∧ r.pc = r.pmax)) → servingVerdict l r md mu =
      .pair (serveDirection l r.up mu r.holdOff).1 (serveDirection l r.down md r.holdOff).1
        ((serveDirection l r.up mu r.holdOff).2 || (serveDirection l r.down md r.holdOff).2))) ∧
  ∀ (l : Ladder) (c holdOff : Nat) (margin : Int), l.increasing = true → c ≤ 7 →
    (margin < l.at c → ∃ p, serveDirection l c margin holdOff = (p, false) ∧ p ≤ 7 ∧
      ((l.at p : Int) ≤ margin ∨ (p = 0 ∧ margin < l.at 0)) ∧ ∀ q, q ≤ 7 → (l.at q : Int) ≤ margin → q ≤ p) ∧
    ((l.at c : Int) ≤ margin →
      serveDirection l c margin holdOff =
        if holdOff = 0 ∧ c < 7 ∧ ((l.at (c + 1) + l.hysteresis : Nat) : Int) ≤ margin then (c + 1, true)
        else (c, false)) ∧
    entryProfile l margin ≤ 7 ∧
    (((l.at (entryProfile l margin) + l.hysteresis : Nat) : Int) ≤ margin ∨
      (entryProfile l margin = 0 ∧ margin < ((l.at 0 + l.hysteresis : Nat) : Int))) ∧
    ∀ q, q ≤ 7 → ((l.at q + l.hysteresis : Nat) : Int) ≤ margin → q ≤ entryProfile l margin

/-! ### What every step keeps -/

/-- The state after reset meets every law below; and the views in which the laws are told are those of the manual: a
terminal waits or is worked on (R135), the group of a queue entry (R73), the phases that search and those of an admitted
terminal (R84, R92), and the condition of preempt-pending (R84, R89). -/
def Obligations.ResetIsSound : Prop :=
  Sound State.reset ∧
  (∀ s : State, s.someWaiting = true ↔
    ∃ t, (s.term t).state ∈ [TermState.queued, .active, .suspended, .backoff, .held]) ∧
  (∀ r : TermRec, r.group = 2 * r.cls + if r.heard then 0 else 1) ∧
  [Phase.coarse, .fine, .confirm, .settle, .verify].map Phase.searching = [true, true, true, false, false] ∧
  [Phase.coarse, .fine, .confirm, .settle, .verify].map Phase.admitted = [false, false, false, true, true] ∧
  (∀ s : State, s.preemptBlocked = true ↔ (∀ e, (s.job e).isSome = true) ∧ 8 ≤ s.stack.length ∧
    ∃ t rest e j, s.queue = t :: rest ∧ s.victim = some (e, j) ∧ (s.term t).cls < j.cls)

/-- A terminal is in the queue exactly when QUEUED, in an engine exactly when ACTIVE, on the stack exactly when
SUSPENDED, and once across the three (R6): every step keeps it. The premise on the classes is the provisioned ranges
of R1. -/
def Obligations.StepKeepsCollections : Prop :=
  ∀ s t : State, ProvisionedLaw s → CollectionsLaw s → step s = .next t → CollectionsLaw t

/-- The queue stands in the order of its groups (R73): every step keeps it. -/
def Obligations.StepKeepsQueueOrder : Prop :=
  ∀ s t : State, CollectionsLaw s → ProvisionedLaw s → QueueOrdered s → step s = .next t → QueueOrdered t

/-- The mode is CLEAR exactly when no terminal waits or is worked on (R135): every step keeps it. -/
def Obligations.StepKeepsModeLaw : Prop :=
  ∀ s t : State, ModeLaw s → step s = .next t → ModeLaw t

/-- Pc is the pending value or Pe, within 0..Pmax, and F within 0..240 (R55): every step keeps it. -/
def Obligations.StepKeepsPowerLaw : Prop :=
  ∀ s t : State, PowerLaw s → step s = .next t → PowerLaw t

/-- The ranges of the record, of the parameters and of the ladder (R1, R2, R4, R45, R161): every step keeps them. The
record's ranges are those of the provisioned values, of the profiles, Pe, pending value, loss power and found power,
and of the counters; Pc and F are the power law's. -/
def Obligations.StepKeepsRanges : Prop :=
  ∀ s t : State, step s = .next t →
    (ProvisionedLaw s → ProvisionedLaw t) ∧ (ProvisionedLaw s → RecordLaw s → RecordLaw t) ∧ (SectorLaw s → SectorLaw t) ∧ (LadderLaw s → LadderLaw t) ∧
    (CollectionsLaw s → SectorLaw s → CounterLaw s → CounterLaw t)

/-- The stack holds at most 8 contexts (R87), the window fewer than 64 entries with lives of 1..4096 (R136, R138), the
buffer is occupied exactly while a reply is sent (R156, R158): every step keeps them. -/
def Obligations.StepKeepsCapacities : Prop :=
  ∀ s t : State, step s = .next t →
    (StackLaw s → StackLaw t) ∧ (SectorLaw s → WindowLaw s → WindowLaw t) ∧ (BufferLaw s → BufferLaw t)

/-- Outside HOLD and OUTAGE every engine holds a job or nothing waits for one (R80), in OUTAGE no engine holds a job
and the stack is empty (R141), and preempt-pending is set exactly while its condition holds (R89): every step keeps
them. -/
def Obligations.StepKeepsEnginesBusy : Prop :=
  ∀ s t : State, step s = .next t →
    (CollectionsLaw s → FillLaw s → FillLaw t) ∧ (OutageLaw s → OutageLaw t) ∧
    (CollectionsLaw s → FlagLaw s → FlagLaw t)

/-- Every context was set aside in a search phase (R87, R113), and every job holds what its phase gives it (R28, R92):
every step keeps both. -/
def Obligations.StepKeepsJobShape : Prop :=
  ∀ s t : State, step s = .next t → (ContextLaw s → ContextLaw t) ∧ (ContextLaw s → JobLaw s → JobLaw t)
end

