-- ==== Sys2Proof/Laws/State.lean ====
section
/-! SUPPORT. What each update of the state leaves as it was: one lemma per field per update, and the reading of a place
after a write to it or to another place. -/

namespace Sys2Proof.Machine

/-! ### Places -/

@[simp] theorem mapPlaces_get {α β : Type} {n : Nat} (f : α → β) (v : Vector α n) (i : Fin n) :
    (mapPlaces f v).get i = f (v.get i) := by
  simp [mapPlaces, Vector.get]; rfl

@[simp] theorem placesOf_get {α : Type} {n : Nat} (f : Fin n → α) (i : Fin n) : (placesOf f).get i = f i := by
  simp [placesOf, Vector.get]; rfl

theorem get_set {α : Type} {n : Nat} (v : Vector α n) (i j : Fin n) (x : α) :
    (v.set i.val x i.isLt).get j = if j = i then x else v.get j := by
  have h : (v.set i.val x i.isLt).get j = (v.set i.val x i.isLt)[j.val] := rfl
  rw [h, Vector.getElem_set]
  by_cases e : j = i
  · subst e; simp
  · rw [if_neg e, if_neg (fun hv => e (Fin.ext hv.symm))]; rfl

/-! ### setTerm -/

@[simp] theorem State.setTerm_cpRx (s : State) (t : TermId) (r : TermRec) : (s.setTerm t r).cpRx = s.cpRx := rfl
@[simp] theorem State.setTerm_reqBuf (s : State) (t : TermId) (r : TermRec) : (s.setTerm t r).reqBuf = s.reqBuf := rfl
@[simp] theorem State.setTerm_reply (s : State) (t : TermId) (r : TermRec) : (s.setTerm t r).reply = s.reply := rfl
@[simp] theorem State.setTerm_startCause (s : State) (t : TermId) (r : TermRec) :
    (s.setTerm t r).startCause = s.startCause := rfl
@[simp] theorem State.setTerm_params (s : State) (t : TermId) (r : TermRec) : (s.setTerm t r).params = s.params := rfl
@[simp] theorem State.setTerm_ladder (s : State) (t : TermId) (r : TermRec) : (s.setTerm t r).ladder = s.ladder := rfl
@[simp] theorem State.setTerm_marks (s : State) (t : TermId) (r : TermRec) : (s.setTerm t r).marks = s.marks := rfl
@[simp] theorem State.setTerm_sectorMark (s : State) (t : TermId) (r : TermRec) :
    (s.setTerm t r).sectorMark = s.sectorMark := rfl
@[simp] theorem State.setTerm_mlRx (s : State) (t : TermId) (r : TermRec) : (s.setTerm t r).mlRx = s.mlRx := rfl
@[simp] theorem State.setTerm_lastFrame (s : State) (t : TermId) (r : TermRec) :
    (s.setTerm t r).lastFrame = s.lastFrame := rfl
@[simp] theorem State.setTerm_modemSilent (s : State) (t : TermId) (r : TermRec) :
    (s.setTerm t r).modemSilent = s.modemSilent := rfl
@[simp] theorem State.setTerm_silenceMs (s : State) (t : TermId) (r : TermRec) :
    (s.setTerm t r).silenceMs = s.silenceMs := rfl
@[simp] theorem State.setTerm_outbox (s : State) (t : TermId) (r : TermRec) : (s.setTerm t r).outbox = s.outbox := rfl
@[simp] theorem State.setTerm_queue (s : State) (t : TermId) (r : TermRec) : (s.setTerm t r).queue = s.queue := rfl
@[simp] theorem State.setTerm_stack (s : State) (t : TermId) (r : TermRec) : (s.setTerm t r).stack = s.stack := rfl
@[simp] theorem State.setTerm_serial (s : State) (t : TermId) (r : TermRec) : (s.setTerm t r).serial = s.serial := rfl
@[simp] theorem State.setTerm_hold (s : State) (t : TermId) (r : TermRec) : (s.setTerm t r).hold = s.hold := rfl
@[simp] theorem State.setTerm_preemptPending (s : State) (t : TermId) (r : TermRec) :
    (s.setTerm t r).preemptPending = s.preemptPending := rfl
@[simp] theorem State.setTerm_engines (s : State) (t : TermId) (r : TermRec) :
    (s.setTerm t r).engines = s.engines := rfl
@[simp] theorem State.setTerm_polls (s : State) (t : TermId) (r : TermRec) : (s.setTerm t r).polls = s.polls := rfl
@[simp] theorem State.setTerm_cursor (s : State) (t : TermId) (r : TermRec) : (s.setTerm t r).cursor = s.cursor := rfl
@[simp] theorem State.setTerm_mode (s : State) (t : TermId) (r : TermRec) : (s.setTerm t r).mode = s.mode := rfl
@[simp] theorem State.setTerm_lossWindow (s : State) (t : TermId) (r : TermRec) :
    (s.setTerm t r).lossWindow = s.lossWindow := rfl
@[simp] theorem State.setTerm_pending (s : State) (t : TermId) (r : TermRec) :
    (s.setTerm t r).pending = s.pending := rfl
@[simp] theorem State.setTerm_freeIndex (s : State) (t : TermId) (r : TermRec) :
    (s.setTerm t r).freeIndex = s.freeIndex := rfl
@[simp] theorem State.setTerm_job (s : State) (t : TermId) (r : TermRec) (e' : EngineId) :
    (s.setTerm t r).job e' = s.job e' := rfl
@[simp] theorem State.setTerm_poll (s : State) (t : TermId) (r : TermRec) (k' : PollTag) :
    (s.setTerm t r).poll k' = s.poll k' := rfl
@[simp] theorem State.setTerm_marked (s : State) (t : TermId) (r : TermRec) (u : TermId) :
    (s.setTerm t r).marked u = s.marked u := rfl

/-! ### setJob -/

@[simp] theorem State.setJob_cpRx (s : State) (e : EngineId) (j : Option Job) : (s.setJob e j).cpRx = s.cpRx := rfl
@[simp] theorem State.setJob_reqBuf (s : State) (e : EngineId) (j : Option Job) :
    (s.setJob e j).reqBuf = s.reqBuf := rfl
@[simp] theorem State.setJob_reply (s : State) (e : EngineId) (j : Option Job) : (s.setJob e j).reply = s.reply := rfl
@[simp] theorem State.setJob_startCause (s : State) (e : EngineId) (j : Option Job) :
    (s.setJob e j).startCause = s.startCause := rfl
@[simp] theorem State.setJob_params (s : State) (e : EngineId) (j : Option Job) :
    (s.setJob e j).params = s.params := rfl
@[simp] theorem State.setJob_ladder (s : State) (e : EngineId) (j : Option Job) :
    (s.setJob e j).ladder = s.ladder := rfl
@[simp] theorem State.setJob_marks (s : State) (e : EngineId) (j : Option Job) : (s.setJob e j).marks = s.marks := rfl
@[simp] theorem State.setJob_sectorMark (s : State) (e : EngineId) (j : Option Job) :
    (s.setJob e j).sectorMark = s.sectorMark := rfl
@[simp] theorem State.setJob_mlRx (s : State) (e : EngineId) (j : Option Job) : (s.setJob e j).mlRx = s.mlRx := rfl
@[simp] theorem State.setJob_lastFrame (s : State) (e : EngineId) (j : Option Job) :
    (s.setJob e j).lastFrame = s.lastFrame := rfl
@[simp] theorem State.setJob_modemSilent (s : State) (e : EngineId) (j : Option Job) :
    (s.setJob e j).modemSilent = s.modemSilent := rfl
@[simp] theorem State.setJob_silenceMs (s : State) (e : EngineId) (j : Option Job) :
    (s.setJob e j).silenceMs = s.silenceMs := rfl
@[simp] theorem State.setJob_outbox (s : State) (e : EngineId) (j : Option Job) :
    (s.setJob e j).outbox = s.outbox := rfl
@[simp] theorem State.setJob_terms (s : State) (e : EngineId) (j : Option Job) : (s.setJob e j).terms = s.terms := rfl
@[simp] theorem State.setJob_queue (s : State) (e : EngineId) (j : Option Job) : (s.setJob e j).queue = s.queue := rfl
@[simp] theorem State.setJob_stack (s : State) (e : EngineId) (j : Option Job) : (s.setJob e j).stack = s.stack := rfl
@[simp] theorem State.setJob_serial (s : State) (e : EngineId) (j : Option Job) :
    (s.setJob e j).serial = s.serial := rfl
@[simp] theorem State.setJob_hold (s : State) (e : EngineId) (j : Option Job) : (s.setJob e j).hold = s.hold := rfl
@[simp] theorem State.setJob_preemptPending (s : State) (e : EngineId) (j : Option Job) :
    (s.setJob e j).preemptPending = s.preemptPending := rfl
@[simp] theorem State.setJob_polls (s : State) (e : EngineId) (j : Option Job) : (s.setJob e j).polls = s.polls := rfl
@[simp] theorem State.setJob_cursor (s : State) (e : EngineId) (j : Option Job) :
    (s.setJob e j).cursor = s.cursor := rfl
@[simp] theorem State.setJob_mode (s : State) (e : EngineId) (j : Option Job) : (s.setJob e j).mode = s.mode := rfl
@[simp] theorem State.setJob_lossWindow (s : State) (e : EngineId) (j : Option Job) :
    (s.setJob e j).lossWindow = s.lossWindow := rfl
@[simp] theorem State.setJob_pending (s : State) (e : EngineId) (j : Option Job) :
    (s.setJob e j).pending = s.pending := rfl
@[simp] theorem State.setJob_freeIndex (s : State) (e : EngineId) (j : Option Job) :
    (s.setJob e j).freeIndex = s.freeIndex := rfl
@[simp] theorem State.setJob_term (s : State) (e : EngineId) (j : Option Job) (u : TermId) :
    (s.setJob e j).term u = s.term u := rfl
@[simp] theorem State.setJob_poll (s : State) (e : EngineId) (j : Option Job) (k' : PollTag) :
    (s.setJob e j).poll k' = s.poll k' := rfl
@[simp] theorem State.setJob_marked (s : State) (e : EngineId) (j : Option Job) (u : TermId) :
    (s.setJob e j).marked u = s.marked u := rfl

/-! ### setPoll -/

@[simp] theorem State.setPoll_cpRx (s : State) (k : PollTag) (p : Option PollEntry) :
    (s.setPoll k p).cpRx = s.cpRx := rfl
@[simp] theorem State.setPoll_reqBuf (s : State) (k : PollTag) (p : Option PollEntry) :
    (s.setPoll k p).reqBuf = s.reqBuf := rfl
@[simp] theorem State.setPoll_reply (s : State) (k : PollTag) (p : Option PollEntry) :
    (s.setPoll k p).reply = s.reply := rfl
@[simp] theorem State.setPoll_startCause (s : State) (k : PollTag) (p : Option PollEntry) :
    (s.setPoll k p).startCause = s.startCause := rfl
@[simp] theorem State.setPoll_params (s : State) (k : PollTag) (p : Option PollEntry) :
    (s.setPoll k p).params = s.params := rfl
@[simp] theorem State.setPoll_ladder (s : State) (k : PollTag) (p : Option PollEntry) :
    (s.setPoll k p).ladder = s.ladder := rfl
@[simp] theorem State.setPoll_marks (s : State) (k : PollTag) (p : Option PollEntry) :
    (s.setPoll k p).marks = s.marks := rfl
@[simp] theorem State.setPoll_sectorMark (s : State) (k : PollTag) (p : Option PollEntry) :
    (s.setPoll k p).sectorMark = s.sectorMark := rfl
@[simp] theorem State.setPoll_mlRx (s : State) (k : PollTag) (p : Option PollEntry) :
    (s.setPoll k p).mlRx = s.mlRx := rfl
@[simp] theorem State.setPoll_lastFrame (s : State) (k : PollTag) (p : Option PollEntry) :
    (s.setPoll k p).lastFrame = s.lastFrame := rfl
@[simp] theorem State.setPoll_modemSilent (s : State) (k : PollTag) (p : Option PollEntry) :
    (s.setPoll k p).modemSilent = s.modemSilent := rfl
@[simp] theorem State.setPoll_silenceMs (s : State) (k : PollTag) (p : Option PollEntry) :
    (s.setPoll k p).silenceMs = s.silenceMs := rfl
@[simp] theorem State.setPoll_outbox (s : State) (k : PollTag) (p : Option PollEntry) :
    (s.setPoll k p).outbox = s.outbox := rfl
@[simp] theorem State.setPoll_terms (s : State) (k : PollTag) (p : Option PollEntry) :
    (s.setPoll k p).terms = s.terms := rfl
@[simp] theorem State.setPoll_queue (s : State) (k : PollTag) (p : Option PollEntry) :
    (s.setPoll k p).queue = s.queue := rfl
@[simp] theorem State.setPoll_stack (s : State) (k : PollTag) (p : Option PollEntry) :
    (s.setPoll k p).stack = s.stack := rfl
@[simp] theorem State.setPoll_serial (s : State) (k : PollTag) (p : Option PollEntry) :
    (s.setPoll k p).serial = s.serial := rfl
@[simp] theorem State.setPoll_hold (s : State) (k : PollTag) (p : Option PollEntry) :
    (s.setPoll k p).hold = s.hold := rfl
@[simp] theorem State.setPoll_preemptPending (s : State) (k : PollTag) (p : Option PollEntry) :
    (s.setPoll k p).preemptPending = s.preemptPending := rfl
@[simp] theorem State.setPoll_engines (s : State) (k : PollTag) (p : Option PollEntry) :
    (s.setPoll k p).engines = s.engines := rfl
@[simp] theorem State.setPoll_cursor (s : State) (k : PollTag) (p : Option PollEntry) :
    (s.setPoll k p).cursor = s.cursor := rfl
@[simp] theorem State.setPoll_mode (s : State) (k : PollTag) (p : Option PollEntry) :
    (s.setPoll k p).mode = s.mode := rfl
@[simp] theorem State.setPoll_lossWindow (s : State) (k : PollTag) (p : Option PollEntry) :
    (s.setPoll k p).lossWindow = s.lossWindow := rfl
@[simp] theorem State.setPoll_pending (s : State) (k : PollTag) (p : Option PollEntry) :
    (s.setPoll k p).pending = s.pending := rfl
@[simp] theorem State.setPoll_freeIndex (s : State) (k : PollTag) (p : Option PollEntry) :
    (s.setPoll k p).freeIndex = s.freeIndex := rfl
@[simp] theorem State.setPoll_term (s : State) (k : PollTag) (p : Option PollEntry) (u : TermId) :
    (s.setPoll k p).term u = s.term u := rfl
@[simp] theorem State.setPoll_job (s : State) (k : PollTag) (p : Option PollEntry) (e' : EngineId) :
    (s.setPoll k p).job e' = s.job e' := rfl
@[simp] theorem State.setPoll_marked (s : State) (k : PollTag) (p : Option PollEntry) (u : TermId) :
    (s.setPoll k p).marked u = s.marked u := rfl

/-! ### setQueue -/

@[simp] theorem State.setQueue_cpRx (s : State) (q : List TermId) : (s.setQueue q).cpRx = s.cpRx := rfl
@[simp] theorem State.setQueue_reqBuf (s : State) (q : List TermId) : (s.setQueue q).reqBuf = s.reqBuf := rfl
@[simp] theorem State.setQueue_reply (s : State) (q : List TermId) : (s.setQueue q).reply = s.reply := rfl
@[simp] theorem State.setQueue_startCause (s : State) (q : List TermId) :
    (s.setQueue q).startCause = s.startCause := rfl
@[simp] theorem State.setQueue_params (s : State) (q : List TermId) : (s.setQueue q).params = s.params := rfl
@[simp] theorem State.setQueue_ladder (s : State) (q : List TermId) : (s.setQueue q).ladder = s.ladder := rfl
@[simp] theorem State.setQueue_marks (s : State) (q : List TermId) : (s.setQueue q).marks = s.marks := rfl
@[simp] theorem State.setQueue_sectorMark (s : State) (q : List TermId) :
    (s.setQueue q).sectorMark = s.sectorMark := rfl
@[simp] theorem State.setQueue_mlRx (s : State) (q : List TermId) : (s.setQueue q).mlRx = s.mlRx := rfl
@[simp] theorem State.setQueue_lastFrame (s : State) (q : List TermId) : (s.setQueue q).lastFrame = s.lastFrame := rfl
@[simp] theorem State.setQueue_modemSilent (s : State) (q : List TermId) :
    (s.setQueue q).modemSilent = s.modemSilent := rfl
@[simp] theorem State.setQueue_silenceMs (s : State) (q : List TermId) : (s.setQueue q).silenceMs = s.silenceMs := rfl
@[simp] theorem State.setQueue_outbox (s : State) (q : List TermId) : (s.setQueue q).outbox = s.outbox := rfl
@[simp] theorem State.setQueue_terms (s : State) (q : List TermId) : (s.setQueue q).terms = s.terms := rfl
@[simp] theorem State.setQueue_stack (s : State) (q : List TermId) : (s.setQueue q).stack = s.stack := rfl
@[simp] theorem State.setQueue_serial (s : State) (q : List TermId) : (s.setQueue q).serial = s.serial := rfl
@[simp] theorem State.setQueue_hold (s : State) (q : List TermId) : (s.setQueue q).hold = s.hold := rfl
@[simp] theorem State.setQueue_preemptPending (s : State) (q : List TermId) :
    (s.setQueue q).preemptPending = s.preemptPending := rfl
@[simp] theorem State.setQueue_engines (s : State) (q : List TermId) : (s.setQueue q).engines = s.engines := rfl
@[simp] theorem State.setQueue_polls (s : State) (q : List TermId) : (s.setQueue q).polls = s.polls := rfl
@[simp] theorem State.setQueue_cursor (s : State) (q : List TermId) : (s.setQueue q).cursor = s.cursor := rfl
@[simp] theorem State.setQueue_mode (s : State) (q : List TermId) : (s.setQueue q).mode = s.mode := rfl
@[simp] theorem State.setQueue_lossWindow (s : State) (q : List TermId) :
    (s.setQueue q).lossWindow = s.lossWindow := rfl
@[simp] theorem State.setQueue_pending (s : State) (q : List TermId) : (s.setQueue q).pending = s.pending := rfl
@[simp] theorem State.setQueue_freeIndex (s : State) (q : List TermId) : (s.setQueue q).freeIndex = s.freeIndex := rfl
@[simp] theorem State.setQueue_term (s : State) (q : List TermId) (u : TermId) :
    (s.setQueue q).term u = s.term u := rfl
@[simp] theorem State.setQueue_job (s : State) (q : List TermId) (e' : EngineId) :
    (s.setQueue q).job e' = s.job e' := rfl
@[simp] theorem State.setQueue_poll (s : State) (q : List TermId) (k' : PollTag) :
    (s.setQueue q).poll k' = s.poll k' := rfl
@[simp] theorem State.setQueue_marked (s : State) (q : List TermId) (u : TermId) :
    (s.setQueue q).marked u = s.marked u := rfl

/-! ### setStack -/

@[simp] theorem State.setStack_cpRx (s : State) (k : List Context) : (s.setStack k).cpRx = s.cpRx := rfl
@[simp] theorem State.setStack_reqBuf (s : State) (k : List Context) : (s.setStack k).reqBuf = s.reqBuf := rfl
@[simp] theorem State.setStack_reply (s : State) (k : List Context) : (s.setStack k).reply = s.reply := rfl
@[simp] theorem State.setStack_startCause (s : State) (k : List Context) :
    (s.setStack k).startCause = s.startCause := rfl
@[simp] theorem State.setStack_params (s : State) (k : List Context) : (s.setStack k).params = s.params := rfl
@[simp] theorem State.setStack_ladder (s : State) (k : List Context) : (s.setStack k).ladder = s.ladder := rfl
@[simp] theorem State.setStack_marks (s : State) (k : List Context) : (s.setStack k).marks = s.marks := rfl
@[simp] theorem State.setStack_sectorMark (s : State) (k : List Context) :
    (s.setStack k).sectorMark = s.sectorMark := rfl
@[simp] theorem State.setStack_mlRx (s : State) (k : List Context) : (s.setStack k).mlRx = s.mlRx := rfl
@[simp] theorem State.setStack_lastFrame (s : State) (k : List Context) :
    (s.setStack k).lastFrame = s.lastFrame := rfl
@[simp] theorem State.setStack_modemSilent (s : State) (k : List Context) :
    (s.setStack k).modemSilent = s.modemSilent := rfl
@[simp] theorem State.setStack_silenceMs (s : State) (k : List Context) :
    (s.setStack k).silenceMs = s.silenceMs := rfl
@[simp] theorem State.setStack_outbox (s : State) (k : List Context) : (s.setStack k).outbox = s.outbox := rfl
@[simp] theorem State.setStack_terms (s : State) (k : List Context) : (s.setStack k).terms = s.terms := rfl
@[simp] theorem State.setStack_queue (s : State) (k : List Context) : (s.setStack k).queue = s.queue := rfl
@[simp] theorem State.setStack_serial (s : State) (k : List Context) : (s.setStack k).serial = s.serial := rfl
@[simp] theorem State.setStack_hold (s : State) (k : List Context) : (s.setStack k).hold = s.hold := rfl
@[simp] theorem State.setStack_preemptPending (s : State) (k : List Context) :
    (s.setStack k).preemptPending = s.preemptPending := rfl
@[simp] theorem State.setStack_engines (s : State) (k : List Context) : (s.setStack k).engines = s.engines := rfl
@[simp] theorem State.setStack_polls (s : State) (k : List Context) : (s.setStack k).polls = s.polls := rfl
@[simp] theorem State.setStack_cursor (s : State) (k : List Context) : (s.setStack k).cursor = s.cursor := rfl
@[simp] theorem State.setStack_mode (s : State) (k : List Context) : (s.setStack k).mode = s.mode := rfl
@[simp] theorem State.setStack_lossWindow (s : State) (k : List Context) :
    (s.setStack k).lossWindow = s.lossWindow := rfl
@[simp] theorem State.setStack_pending (s : State) (k : List Context) : (s.setStack k).pending = s.pending := rfl
@[simp] theorem State.setStack_freeIndex (s : State) (k : List Context) :
    (s.setStack k).freeIndex = s.freeIndex := rfl
@[simp] theorem State.setStack_term (s : State) (k : List Context) (u : TermId) :
    (s.setStack k).term u = s.term u := rfl
@[simp] theorem State.setStack_job (s : State) (k : List Context) (e' : EngineId) :
    (s.setStack k).job e' = s.job e' := rfl
@[simp] theorem State.setStack_poll (s : State) (k : List Context) (k' : PollTag) :
    (s.setStack k).poll k' = s.poll k' := rfl
@[simp] theorem State.setStack_marked (s : State) (k : List Context) (u : TermId) :
    (s.setStack k).marked u = s.marked u := rfl

/-! ### mark -/

@[simp] theorem State.mark_cpRx (s : State) (t : TermId) : (s.mark t).cpRx = s.cpRx := rfl
@[simp] theorem State.mark_reqBuf (s : State) (t : TermId) : (s.mark t).reqBuf = s.reqBuf := rfl
@[simp] theorem State.mark_reply (s : State) (t : TermId) : (s.mark t).reply = s.reply := rfl
@[simp] theorem State.mark_startCause (s : State) (t : TermId) : (s.mark t).startCause = s.startCause := rfl
@[simp] theorem State.mark_params (s : State) (t : TermId) : (s.mark t).params = s.params := rfl
@[simp] theorem State.mark_ladder (s : State) (t : TermId) : (s.mark t).ladder = s.ladder := rfl
@[simp] theorem State.mark_sectorMark (s : State) (t : TermId) : (s.mark t).sectorMark = s.sectorMark := rfl
@[simp] theorem State.mark_mlRx (s : State) (t : TermId) : (s.mark t).mlRx = s.mlRx := rfl
@[simp] theorem State.mark_lastFrame (s : State) (t : TermId) : (s.mark t).lastFrame = s.lastFrame := rfl
@[simp] theorem State.mark_modemSilent (s : State) (t : TermId) : (s.mark t).modemSilent = s.modemSilent := rfl
@[simp] theorem State.mark_silenceMs (s : State) (t : TermId) : (s.mark t).silenceMs = s.silenceMs := rfl
@[simp] theorem State.mark_outbox (s : State) (t : TermId) : (s.mark t).outbox = s.outbox := rfl
@[simp] theorem State.mark_terms (s : State) (t : TermId) : (s.mark t).terms = s.terms := rfl
@[simp] theorem State.mark_queue (s : State) (t : TermId) : (s.mark t).queue = s.queue := rfl
@[simp] theorem State.mark_stack (s : State) (t : TermId) : (s.mark t).stack = s.stack := rfl
@[simp] theorem State.mark_serial (s : State) (t : TermId) : (s.mark t).serial = s.serial := rfl
@[simp] theorem State.mark_hold (s : State) (t : TermId) : (s.mark t).hold = s.hold := rfl
@[simp] theorem State.mark_preemptPending (s : State) (t : TermId) :
    (s.mark t).preemptPending = s.preemptPending := rfl
@[simp] theorem State.mark_engines (s : State) (t : TermId) : (s.mark t).engines = s.engines := rfl
@[simp] theorem State.mark_polls (s : State) (t : TermId) : (s.mark t).polls = s.polls := rfl
@[simp] theorem State.mark_cursor (s : State) (t : TermId) : (s.mark t).cursor = s.cursor := rfl
@[simp] theorem State.mark_mode (s : State) (t : TermId) : (s.mark t).mode = s.mode := rfl
@[simp] theorem State.mark_lossWindow (s : State) (t : TermId) : (s.mark t).lossWindow = s.lossWindow := rfl
@[simp] theorem State.mark_pending (s : State) (t : TermId) : (s.mark t).pending = s.pending := rfl
@[simp] theorem State.mark_freeIndex (s : State) (t : TermId) : (s.mark t).freeIndex = s.freeIndex := rfl
@[simp] theorem State.mark_term (s : State) (t : TermId) (u : TermId) : (s.mark t).term u = s.term u := rfl
@[simp] theorem State.mark_job (s : State) (t : TermId) (e' : EngineId) : (s.mark t).job e' = s.job e' := rfl
@[simp] theorem State.mark_poll (s : State) (t : TermId) (k' : PollTag) : (s.mark t).poll k' = s.poll k' := rfl

/-! ### send -/

@[simp] theorem State.send_cpRx (s : State) (m : OutMsg) : (s.send m).cpRx = s.cpRx := rfl
@[simp] theorem State.send_reqBuf (s : State) (m : OutMsg) : (s.send m).reqBuf = s.reqBuf := rfl
@[simp] theorem State.send_reply (s : State) (m : OutMsg) : (s.send m).reply = s.reply := rfl
@[simp] theorem State.send_startCause (s : State) (m : OutMsg) : (s.send m).startCause = s.startCause := rfl
@[simp] theorem State.send_params (s : State) (m : OutMsg) : (s.send m).params = s.params := rfl
@[simp] theorem State.send_ladder (s : State) (m : OutMsg) : (s.send m).ladder = s.ladder := rfl
@[simp] theorem State.send_marks (s : State) (m : OutMsg) : (s.send m).marks = s.marks := rfl
@[simp] theorem State.send_sectorMark (s : State) (m : OutMsg) : (s.send m).sectorMark = s.sectorMark := rfl
@[simp] theorem State.send_mlRx (s : State) (m : OutMsg) : (s.send m).mlRx = s.mlRx := rfl
@[simp] theorem State.send_lastFrame (s : State) (m : OutMsg) : (s.send m).lastFrame = s.lastFrame := rfl
@[simp] theorem State.send_modemSilent (s : State) (m : OutMsg) : (s.send m).modemSilent = s.modemSilent := rfl
@[simp] theorem State.send_silenceMs (s : State) (m : OutMsg) : (s.send m).silenceMs = s.silenceMs := rfl
@[simp] theorem State.send_terms (s : State) (m : OutMsg) : (s.send m).terms = s.terms := rfl
@[simp] theorem State.send_queue (s : State) (m : OutMsg) : (s.send m).queue = s.queue := rfl
@[simp] theorem State.send_stack (s : State) (m : OutMsg) : (s.send m).stack = s.stack := rfl
@[simp] theorem State.send_serial (s : State) (m : OutMsg) : (s.send m).serial = s.serial := rfl
@[simp] theorem State.send_hold (s : State) (m : OutMsg) : (s.send m).hold = s.hold := rfl
@[simp] theorem State.send_preemptPending (s : State) (m : OutMsg) :
    (s.send m).preemptPending = s.preemptPending := rfl
@[simp] theorem State.send_engines (s : State) (m : OutMsg) : (s.send m).engines = s.engines := rfl
@[simp] theorem State.send_polls (s : State) (m : OutMsg) : (s.send m).polls = s.polls := rfl
@[simp] theorem State.send_cursor (s : State) (m : OutMsg) : (s.send m).cursor = s.cursor := rfl
@[simp] theorem State.send_mode (s : State) (m : OutMsg) : (s.send m).mode = s.mode := rfl
@[simp] theorem State.send_lossWindow (s : State) (m : OutMsg) : (s.send m).lossWindow = s.lossWindow := rfl
@[simp] theorem State.send_pending (s : State) (m : OutMsg) : (s.send m).pending = s.pending := rfl
@[simp] theorem State.send_freeIndex (s : State) (m : OutMsg) : (s.send m).freeIndex = s.freeIndex := rfl
@[simp] theorem State.send_term (s : State) (m : OutMsg) (u : TermId) : (s.send m).term u = s.term u := rfl
@[simp] theorem State.send_job (s : State) (m : OutMsg) (e' : EngineId) : (s.send m).job e' = s.job e' := rfl
@[simp] theorem State.send_poll (s : State) (m : OutMsg) (k' : PollTag) : (s.send m).poll k' = s.poll k' := rfl
@[simp] theorem State.send_marked (s : State) (m : OutMsg) (u : TermId) : (s.send m).marked u = s.marked u := rfl

/-! ### nextSerial -/

@[simp] theorem State.nextSerial_cpRx (s : State) : (s.nextSerial).cpRx = s.cpRx := rfl
@[simp] theorem State.nextSerial_reqBuf (s : State) : (s.nextSerial).reqBuf = s.reqBuf := rfl
@[simp] theorem State.nextSerial_reply (s : State) : (s.nextSerial).reply = s.reply := rfl
@[simp] theorem State.nextSerial_startCause (s : State) : (s.nextSerial).startCause = s.startCause := rfl
@[simp] theorem State.nextSerial_params (s : State) : (s.nextSerial).params = s.params := rfl
@[simp] theorem State.nextSerial_ladder (s : State) : (s.nextSerial).ladder = s.ladder := rfl
@[simp] theorem State.nextSerial_marks (s : State) : (s.nextSerial).marks = s.marks := rfl
@[simp] theorem State.nextSerial_sectorMark (s : State) : (s.nextSerial).sectorMark = s.sectorMark := rfl
@[simp] theorem State.nextSerial_mlRx (s : State) : (s.nextSerial).mlRx = s.mlRx := rfl
@[simp] theorem State.nextSerial_lastFrame (s : State) : (s.nextSerial).lastFrame = s.lastFrame := rfl
@[simp] theorem State.nextSerial_modemSilent (s : State) : (s.nextSerial).modemSilent = s.modemSilent := rfl
@[simp] theorem State.nextSerial_silenceMs (s : State) : (s.nextSerial).silenceMs = s.silenceMs := rfl
@[simp] theorem State.nextSerial_outbox (s : State) : (s.nextSerial).outbox = s.outbox := rfl
@[simp] theorem State.nextSerial_terms (s : State) : (s.nextSerial).terms = s.terms := rfl
@[simp] theorem State.nextSerial_queue (s : State) : (s.nextSerial).queue = s.queue := rfl
@[simp] theorem State.nextSerial_stack (s : State) : (s.nextSerial).stack = s.stack := rfl
@[simp] theorem State.nextSerial_hold (s : State) : (s.nextSerial).hold = s.hold := rfl
@[simp] theorem State.nextSerial_preemptPending (s : State) : (s.nextSerial).preemptPending = s.preemptPending := rfl
@[simp] theorem State.nextSerial_engines (s : State) : (s.nextSerial).engines = s.engines := rfl
@[simp] theorem State.nextSerial_polls (s : State) : (s.nextSerial).polls = s.polls := rfl
@[simp] theorem State.nextSerial_cursor (s : State) : (s.nextSerial).cursor = s.cursor := rfl
@[simp] theorem State.nextSerial_mode (s : State) : (s.nextSerial).mode = s.mode := rfl
@[simp] theorem State.nextSerial_lossWindow (s : State) : (s.nextSerial).lossWindow = s.lossWindow := rfl
@[simp] theorem State.nextSerial_pending (s : State) : (s.nextSerial).pending = s.pending := rfl
@[simp] theorem State.nextSerial_freeIndex (s : State) : (s.nextSerial).freeIndex = s.freeIndex := rfl
@[simp] theorem State.nextSerial_term (s : State) (u : TermId) : (s.nextSerial).term u = s.term u := rfl
@[simp] theorem State.nextSerial_job (s : State) (e' : EngineId) : (s.nextSerial).job e' = s.job e' := rfl
@[simp] theorem State.nextSerial_poll (s : State) (k' : PollTag) : (s.nextSerial).poll k' = s.poll k' := rfl
@[simp] theorem State.nextSerial_marked (s : State) (u : TermId) : (s.nextSerial).marked u = s.marked u := rfl

/-! ### leaveQueue -/

@[simp] theorem State.leaveQueue_cpRx (s : State) (t : TermId) : (s.leaveQueue t).cpRx = s.cpRx := rfl
@[simp] theorem State.leaveQueue_reqBuf (s : State) (t : TermId) : (s.leaveQueue t).reqBuf = s.reqBuf := rfl
@[simp] theorem State.leaveQueue_reply (s : State) (t : TermId) : (s.leaveQueue t).reply = s.reply := rfl
@[simp] theorem State.leaveQueue_startCause (s : State) (t : TermId) :
    (s.leaveQueue t).startCause = s.startCause := rfl
@[simp] theorem State.leaveQueue_params (s : State) (t : TermId) : (s.leaveQueue t).params = s.params := rfl
@[simp] theorem State.leaveQueue_ladder (s : State) (t : TermId) : (s.leaveQueue t).ladder = s.ladder := rfl
@[simp] theorem State.leaveQueue_marks (s : State) (t : TermId) : (s.leaveQueue t).marks = s.marks := rfl
@[simp] theorem State.leaveQueue_sectorMark (s : State) (t : TermId) :
    (s.leaveQueue t).sectorMark = s.sectorMark := rfl
@[simp] theorem State.leaveQueue_mlRx (s : State) (t : TermId) : (s.leaveQueue t).mlRx = s.mlRx := rfl
@[simp] theorem State.leaveQueue_lastFrame (s : State) (t : TermId) : (s.leaveQueue t).lastFrame = s.lastFrame := rfl
@[simp] theorem State.leaveQueue_modemSilent (s : State) (t : TermId) :
    (s.leaveQueue t).modemSilent = s.modemSilent := rfl
@[simp] theorem State.leaveQueue_silenceMs (s : State) (t : TermId) : (s.leaveQueue t).silenceMs = s.silenceMs := rfl
@[simp] theorem State.leaveQueue_outbox (s : State) (t : TermId) : (s.leaveQueue t).outbox = s.outbox := rfl
@[simp] theorem State.leaveQueue_terms (s : State) (t : TermId) : (s.leaveQueue t).terms = s.terms := rfl
@[simp] theorem State.leaveQueue_stack (s : State) (t : TermId) : (s.leaveQueue t).stack = s.stack := rfl
@[simp] theorem State.leaveQueue_serial (s : State) (t : TermId) : (s.leaveQueue t).serial = s.serial := rfl
@[simp] theorem State.leaveQueue_hold (s : State) (t : TermId) : (s.leaveQueue t).hold = s.hold := rfl
@[simp] theorem State.leaveQueue_preemptPending (s : State) (t : TermId) :
    (s.leaveQueue t).preemptPending = s.preemptPending := rfl
@[simp] theorem State.leaveQueue_engines (s : State) (t : TermId) : (s.leaveQueue t).engines = s.engines := rfl
@[simp] theorem State.leaveQueue_polls (s : State) (t : TermId) : (s.leaveQueue t).polls = s.polls := rfl
@[simp] theorem State.leaveQueue_cursor (s : State) (t : TermId) : (s.leaveQueue t).cursor = s.cursor := rfl
@[simp] theorem State.leaveQueue_mode (s : State) (t : TermId) : (s.leaveQueue t).mode = s.mode := rfl
@[simp] theorem State.leaveQueue_lossWindow (s : State) (t : TermId) :
    (s.leaveQueue t).lossWindow = s.lossWindow := rfl
@[simp] theorem State.leaveQueue_pending (s : State) (t : TermId) : (s.leaveQueue t).pending = s.pending := rfl
@[simp] theorem State.leaveQueue_freeIndex (s : State) (t : TermId) : (s.leaveQueue t).freeIndex = s.freeIndex := rfl
@[simp] theorem State.leaveQueue_term (s : State) (t : TermId) (u : TermId) :
    (s.leaveQueue t).term u = s.term u := rfl
@[simp] theorem State.leaveQueue_job (s : State) (t : TermId) (e' : EngineId) :
    (s.leaveQueue t).job e' = s.job e' := rfl
@[simp] theorem State.leaveQueue_poll (s : State) (t : TermId) (k' : PollTag) :
    (s.leaveQueue t).poll k' = s.poll k' := rfl
@[simp] theorem State.leaveQueue_marked (s : State) (t : TermId) (u : TermId) :
    (s.leaveQueue t).marked u = s.marked u := rfl

/-! ### joinEnd -/

@[simp] theorem State.joinEnd_cpRx (s : State) (t : TermId) : (s.joinEnd t).cpRx = s.cpRx := rfl
@[simp] theorem State.joinEnd_reqBuf (s : State) (t : TermId) : (s.joinEnd t).reqBuf = s.reqBuf := rfl
@[simp] theorem State.joinEnd_reply (s : State) (t : TermId) : (s.joinEnd t).reply = s.reply := rfl
@[simp] theorem State.joinEnd_startCause (s : State) (t : TermId) : (s.joinEnd t).startCause = s.startCause := rfl
@[simp] theorem State.joinEnd_params (s : State) (t : TermId) : (s.joinEnd t).params = s.params := rfl
@[simp] theorem State.joinEnd_ladder (s : State) (t : TermId) : (s.joinEnd t).ladder = s.ladder := rfl
@[simp] theorem State.joinEnd_marks (s : State) (t : TermId) : (s.joinEnd t).marks = s.marks := rfl
@[simp] theorem State.joinEnd_sectorMark (s : State) (t : TermId) : (s.joinEnd t).sectorMark = s.sectorMark := rfl
@[simp] theorem State.joinEnd_mlRx (s : State) (t : TermId) : (s.joinEnd t).mlRx = s.mlRx := rfl
@[simp] theorem State.joinEnd_lastFrame (s : State) (t : TermId) : (s.joinEnd t).lastFrame = s.lastFrame := rfl
@[simp] theorem State.joinEnd_modemSilent (s : State) (t : TermId) : (s.joinEnd t).modemSilent = s.modemSilent := rfl
@[simp] theorem State.joinEnd_silenceMs (s : State) (t : TermId) : (s.joinEnd t).silenceMs = s.silenceMs := rfl
@[simp] theorem State.joinEnd_outbox (s : State) (t : TermId) : (s.joinEnd t).outbox = s.outbox := rfl
@[simp] theorem State.joinEnd_terms (s : State) (t : TermId) : (s.joinEnd t).terms = s.terms := rfl
@[simp] theorem State.joinEnd_stack (s : State) (t : TermId) : (s.joinEnd t).stack = s.stack := rfl
@[simp] theorem State.joinEnd_serial (s : State) (t : TermId) : (s.joinEnd t).serial = s.serial := rfl
@[simp] theorem State.joinEnd_hold (s : State) (t : TermId) : (s.joinEnd t).hold = s.hold := rfl
@[simp] theorem State.joinEnd_preemptPending (s : State) (t : TermId) :
    (s.joinEnd t).preemptPending = s.preemptPending := rfl
@[simp] theorem State.joinEnd_engines (s : State) (t : TermId) : (s.joinEnd t).engines = s.engines := rfl
@[simp] theorem State.joinEnd_polls (s : State) (t : TermId) : (s.joinEnd t).polls = s.polls := rfl
@[simp] theorem State.joinEnd_cursor (s : State) (t : TermId) : (s.joinEnd t).cursor = s.cursor := rfl
@[simp] theorem State.joinEnd_mode (s : State) (t : TermId) : (s.joinEnd t).mode = s.mode := rfl
@[simp] theorem State.joinEnd_lossWindow (s : State) (t : TermId) : (s.joinEnd t).lossWindow = s.lossWindow := rfl
@[simp] theorem State.joinEnd_pending (s : State) (t : TermId) : (s.joinEnd t).pending = s.pending := rfl
@[simp] theorem State.joinEnd_freeIndex (s : State) (t : TermId) : (s.joinEnd t).freeIndex = s.freeIndex := rfl
@[simp] theorem State.joinEnd_term (s : State) (t : TermId) (u : TermId) : (s.joinEnd t).term u = s.term u := rfl
@[simp] theorem State.joinEnd_job (s : State) (t : TermId) (e' : EngineId) : (s.joinEnd t).job e' = s.job e' := rfl
@[simp] theorem State.joinEnd_poll (s : State) (t : TermId) (k' : PollTag) : (s.joinEnd t).poll k' = s.poll k' := rfl
@[simp] theorem State.joinEnd_marked (s : State) (t : TermId) (u : TermId) :
    (s.joinEnd t).marked u = s.marked u := rfl

/-! ### complete -/

@[simp] theorem State.complete_cpRx (s : State) (t : TermId) : (s.complete t).cpRx = s.cpRx := rfl
@[simp] theorem State.complete_reqBuf (s : State) (t : TermId) : (s.complete t).reqBuf = s.reqBuf := rfl
@[simp] theorem State.complete_reply (s : State) (t : TermId) : (s.complete t).reply = s.reply := rfl
@[simp] theorem State.complete_startCause (s : State) (t : TermId) : (s.complete t).startCause = s.startCause := rfl
@[simp] theorem State.complete_params (s : State) (t : TermId) : (s.complete t).params = s.params := rfl
@[simp] theorem State.complete_ladder (s : State) (t : TermId) : (s.complete t).ladder = s.ladder := rfl
@[simp] theorem State.complete_marks (s : State) (t : TermId) : (s.complete t).marks = s.marks := rfl
@[simp] theorem State.complete_sectorMark (s : State) (t : TermId) : (s.complete t).sectorMark = s.sectorMark := rfl
@[simp] theorem State.complete_mlRx (s : State) (t : TermId) : (s.complete t).mlRx = s.mlRx := rfl
@[simp] theorem State.complete_lastFrame (s : State) (t : TermId) : (s.complete t).lastFrame = s.lastFrame := rfl
@[simp] theorem State.complete_modemSilent (s : State) (t : TermId) :
    (s.complete t).modemSilent = s.modemSilent := rfl
@[simp] theorem State.complete_silenceMs (s : State) (t : TermId) : (s.complete t).silenceMs = s.silenceMs := rfl
@[simp] theorem State.complete_outbox (s : State) (t : TermId) : (s.complete t).outbox = s.outbox := rfl
@[simp] theorem State.complete_queue (s : State) (t : TermId) : (s.complete t).queue = s.queue := rfl
@[simp] theorem State.complete_stack (s : State) (t : TermId) : (s.complete t).stack = s.stack := rfl
@[simp] theorem State.complete_serial (s : State) (t : TermId) : (s.complete t).serial = s.serial := rfl
@[simp] theorem State.complete_hold (s : State) (t : TermId) : (s.complete t).hold = s.hold := rfl
@[simp] theorem State.complete_preemptPending (s : State) (t : TermId) :
    (s.complete t).preemptPending = s.preemptPending := rfl
@[simp] theorem State.complete_engines (s : State) (t : TermId) : (s.complete t).engines = s.engines := rfl
@[simp] theorem State.complete_polls (s : State) (t : TermId) : (s.complete t).polls = s.polls := rfl
@[simp] theorem State.complete_cursor (s : State) (t : TermId) : (s.complete t).cursor = s.cursor := rfl
@[simp] theorem State.complete_mode (s : State) (t : TermId) : (s.complete t).mode = s.mode := rfl
@[simp] theorem State.complete_lossWindow (s : State) (t : TermId) : (s.complete t).lossWindow = s.lossWindow := rfl
@[simp] theorem State.complete_pending (s : State) (t : TermId) : (s.complete t).pending = s.pending := rfl
@[simp] theorem State.complete_freeIndex (s : State) (t : TermId) : (s.complete t).freeIndex = s.freeIndex := rfl
@[simp] theorem State.complete_job (s : State) (t : TermId) (e' : EngineId) : (s.complete t).job e' = s.job e' := rfl
@[simp] theorem State.complete_poll (s : State) (t : TermId) (k' : PollTag) :
    (s.complete t).poll k' = s.poll k' := rfl
@[simp] theorem State.complete_marked (s : State) (t : TermId) (u : TermId) :
    (s.complete t).marked u = s.marked u := rfl

/-! ### closeWindow -/

@[simp] theorem State.closeWindow_cpRx (s : State) (t : TermId) : (s.closeWindow t).cpRx = s.cpRx := rfl
@[simp] theorem State.closeWindow_reqBuf (s : State) (t : TermId) : (s.closeWindow t).reqBuf = s.reqBuf := rfl
@[simp] theorem State.closeWindow_reply (s : State) (t : TermId) : (s.closeWindow t).reply = s.reply := rfl
@[simp] theorem State.closeWindow_startCause (s : State) (t : TermId) :
    (s.closeWindow t).startCause = s.startCause := rfl
@[simp] theorem State.closeWindow_params (s : State) (t : TermId) : (s.closeWindow t).params = s.params := rfl
@[simp] theorem State.closeWindow_ladder (s : State) (t : TermId) : (s.closeWindow t).ladder = s.ladder := rfl
@[simp] theorem State.closeWindow_marks (s : State) (t : TermId) : (s.closeWindow t).marks = s.marks := rfl
@[simp] theorem State.closeWindow_sectorMark (s : State) (t : TermId) :
    (s.closeWindow t).sectorMark = s.sectorMark := rfl
@[simp] theorem State.closeWindow_mlRx (s : State) (t : TermId) : (s.closeWindow t).mlRx = s.mlRx := rfl
@[simp] theorem State.closeWindow_lastFrame (s : State) (t : TermId) :
    (s.closeWindow t).lastFrame = s.lastFrame := rfl
@[simp] theorem State.closeWindow_modemSilent (s : State) (t : TermId) :
    (s.closeWindow t).modemSilent = s.modemSilent := rfl
@[simp] theorem State.closeWindow_silenceMs (s : State) (t : TermId) :
    (s.closeWindow t).silenceMs = s.silenceMs := rfl
@[simp] theorem State.closeWindow_outbox (s : State) (t : TermId) : (s.closeWindow t).outbox = s.outbox := rfl
@[simp] theorem State.closeWindow_queue (s : State) (t : TermId) : (s.closeWindow t).queue = s.queue := rfl
@[simp] theorem State.closeWindow_stack (s : State) (t : TermId) : (s.closeWindow t).stack = s.stack := rfl
@[simp] theorem State.closeWindow_serial (s : State) (t : TermId) : (s.closeWindow t).serial = s.serial := rfl
@[simp] theorem State.closeWindow_hold (s : State) (t : TermId) : (s.closeWindow t).hold = s.hold := rfl
@[simp] theorem State.closeWindow_preemptPending (s : State) (t : TermId) :
    (s.closeWindow t).preemptPending = s.preemptPending := rfl
@[simp] theorem State.closeWindow_engines (s : State) (t : TermId) : (s.closeWindow t).engines = s.engines := rfl
@[simp] theorem State.closeWindow_polls (s : State) (t : TermId) : (s.closeWindow t).polls = s.polls := rfl
@[simp] theorem State.closeWindow_cursor (s : State) (t : TermId) : (s.closeWindow t).cursor = s.cursor := rfl
@[simp] theorem State.closeWindow_mode (s : State) (t : TermId) : (s.closeWindow t).mode = s.mode := rfl
@[simp] theorem State.closeWindow_lossWindow (s : State) (t : TermId) :
    (s.closeWindow t).lossWindow = s.lossWindow := rfl
@[simp] theorem State.closeWindow_pending (s : State) (t : TermId) : (s.closeWindow t).pending = s.pending := rfl
@[simp] theorem State.closeWindow_freeIndex (s : State) (t : TermId) :
    (s.closeWindow t).freeIndex = s.freeIndex := rfl
@[simp] theorem State.closeWindow_job (s : State) (t : TermId) (e' : EngineId) :
    (s.closeWindow t).job e' = s.job e' := rfl
@[simp] theorem State.closeWindow_poll (s : State) (t : TermId) (k' : PollTag) :
    (s.closeWindow t).poll k' = s.poll k' := rfl
@[simp] theorem State.closeWindow_marked (s : State) (t : TermId) (u : TermId) :
    (s.closeWindow t).marked u = s.marked u := rfl

/-! ### answer -/

@[simp] theorem State.answer_cpRx (s : State) (r : Reply) : (s.answer r).cpRx = s.cpRx := rfl
@[simp] theorem State.answer_reqBuf (s : State) (r : Reply) : (s.answer r).reqBuf = s.reqBuf := rfl
@[simp] theorem State.answer_startCause (s : State) (r : Reply) : (s.answer r).startCause = s.startCause := rfl
@[simp] theorem State.answer_params (s : State) (r : Reply) : (s.answer r).params = s.params := rfl
@[simp] theorem State.answer_ladder (s : State) (r : Reply) : (s.answer r).ladder = s.ladder := rfl
@[simp] theorem State.answer_marks (s : State) (r : Reply) : (s.answer r).marks = s.marks := rfl
@[simp] theorem State.answer_sectorMark (s : State) (r : Reply) : (s.answer r).sectorMark = s.sectorMark := rfl
@[simp] theorem State.answer_mlRx (s : State) (r : Reply) : (s.answer r).mlRx = s.mlRx := rfl
@[simp] theorem State.answer_lastFrame (s : State) (r : Reply) : (s.answer r).lastFrame = s.lastFrame := rfl
@[simp] theorem State.answer_modemSilent (s : State) (r : Reply) : (s.answer r).modemSilent = s.modemSilent := rfl
@[simp] theorem State.answer_silenceMs (s : State) (r : Reply) : (s.answer r).silenceMs = s.silenceMs := rfl
@[simp] theorem State.answer_outbox (s : State) (r : Reply) : (s.answer r).outbox = s.outbox := rfl
@[simp] theorem State.answer_terms (s : State) (r : Reply) : (s.answer r).terms = s.terms := rfl
@[simp] theorem State.answer_queue (s : State) (r : Reply) : (s.answer r).queue = s.queue := rfl
@[simp] theorem State.answer_stack (s : State) (r : Reply) : (s.answer r).stack = s.stack := rfl
@[simp] theorem State.answer_serial (s : State) (r : Reply) : (s.answer r).serial = s.serial := rfl
@[simp] theorem State.answer_hold (s : State) (r : Reply) : (s.answer r).hold = s.hold := rfl
@[simp] theorem State.answer_preemptPending (s : State) (r : Reply) :
    (s.answer r).preemptPending = s.preemptPending := rfl
@[simp] theorem State.answer_engines (s : State) (r : Reply) : (s.answer r).engines = s.engines := rfl
@[simp] theorem State.answer_polls (s : State) (r : Reply) : (s.answer r).polls = s.polls := rfl
@[simp] theorem State.answer_cursor (s : State) (r : Reply) : (s.answer r).cursor = s.cursor := rfl
@[simp] theorem State.answer_mode (s : State) (r : Reply) : (s.answer r).mode = s.mode := rfl
@[simp] theorem State.answer_lossWindow (s : State) (r : Reply) : (s.answer r).lossWindow = s.lossWindow := rfl
@[simp] theorem State.answer_pending (s : State) (r : Reply) : (s.answer r).pending = s.pending := rfl
@[simp] theorem State.answer_freeIndex (s : State) (r : Reply) : (s.answer r).freeIndex = s.freeIndex := rfl
@[simp] theorem State.answer_term (s : State) (r : Reply) (u : TermId) : (s.answer r).term u = s.term u := rfl
@[simp] theorem State.answer_job (s : State) (r : Reply) (e' : EngineId) : (s.answer r).job e' = s.job e' := rfl
@[simp] theorem State.answer_poll (s : State) (r : Reply) (k' : PollTag) : (s.answer r).poll k' = s.poll k' := rfl
@[simp] theorem State.answer_marked (s : State) (r : Reply) (u : TermId) : (s.answer r).marked u = s.marked u := rfl

/-! ### mlHunt -/

@[simp] theorem State.mlHunt_cpRx (s : State) : (s.mlHunt).cpRx = s.cpRx := rfl
@[simp] theorem State.mlHunt_reqBuf (s : State) : (s.mlHunt).reqBuf = s.reqBuf := rfl
@[simp] theorem State.mlHunt_reply (s : State) : (s.mlHunt).reply = s.reply := rfl
@[simp] theorem State.mlHunt_startCause (s : State) : (s.mlHunt).startCause = s.startCause := rfl
@[simp] theorem State.mlHunt_params (s : State) : (s.mlHunt).params = s.params := rfl
@[simp] theorem State.mlHunt_ladder (s : State) : (s.mlHunt).ladder = s.ladder := rfl
@[simp] theorem State.mlHunt_marks (s : State) : (s.mlHunt).marks = s.marks := rfl
@[simp] theorem State.mlHunt_sectorMark (s : State) : (s.mlHunt).sectorMark = s.sectorMark := rfl
@[simp] theorem State.mlHunt_lastFrame (s : State) : (s.mlHunt).lastFrame = s.lastFrame := rfl
@[simp] theorem State.mlHunt_modemSilent (s : State) : (s.mlHunt).modemSilent = s.modemSilent := rfl
@[simp] theorem State.mlHunt_silenceMs (s : State) : (s.mlHunt).silenceMs = s.silenceMs := rfl
@[simp] theorem State.mlHunt_outbox (s : State) : (s.mlHunt).outbox = s.outbox := rfl
@[simp] theorem State.mlHunt_terms (s : State) : (s.mlHunt).terms = s.terms := rfl
@[simp] theorem State.mlHunt_queue (s : State) : (s.mlHunt).queue = s.queue := rfl
@[simp] theorem State.mlHunt_stack (s : State) : (s.mlHunt).stack = s.stack := rfl
@[simp] theorem State.mlHunt_serial (s : State) : (s.mlHunt).serial = s.serial := rfl
@[simp] theorem State.mlHunt_hold (s : State) : (s.mlHunt).hold = s.hold := rfl
@[simp] theorem State.mlHunt_preemptPending (s : State) : (s.mlHunt).preemptPending = s.preemptPending := rfl
@[simp] theorem State.mlHunt_engines (s : State) : (s.mlHunt).engines = s.engines := rfl
@[simp] theorem State.mlHunt_polls (s : State) : (s.mlHunt).polls = s.polls := rfl
@[simp] theorem State.mlHunt_cursor (s : State) : (s.mlHunt).cursor = s.cursor := rfl
@[simp] theorem State.mlHunt_mode (s : State) : (s.mlHunt).mode = s.mode := rfl
@[simp] theorem State.mlHunt_lossWindow (s : State) : (s.mlHunt).lossWindow = s.lossWindow := rfl
@[simp] theorem State.mlHunt_pending (s : State) : (s.mlHunt).pending = s.pending := rfl
@[simp] theorem State.mlHunt_freeIndex (s : State) : (s.mlHunt).freeIndex = s.freeIndex := rfl
@[simp] theorem State.mlHunt_term (s : State) (u : TermId) : (s.mlHunt).term u = s.term u := rfl
@[simp] theorem State.mlHunt_job (s : State) (e' : EngineId) : (s.mlHunt).job e' = s.job e' := rfl
@[simp] theorem State.mlHunt_poll (s : State) (k' : PollTag) : (s.mlHunt).poll k' = s.poll k' := rfl
@[simp] theorem State.mlHunt_marked (s : State) (u : TermId) : (s.mlHunt).marked u = s.marked u := rfl

/-! ### cpHunt -/

@[simp] theorem State.cpHunt_reqBuf (s : State) : (s.cpHunt).reqBuf = s.reqBuf := rfl
@[simp] theorem State.cpHunt_reply (s : State) : (s.cpHunt).reply = s.reply := rfl
@[simp] theorem State.cpHunt_startCause (s : State) : (s.cpHunt).startCause = s.startCause := rfl
@[simp] theorem State.cpHunt_params (s : State) : (s.cpHunt).params = s.params := rfl
@[simp] theorem State.cpHunt_ladder (s : State) : (s.cpHunt).ladder = s.ladder := rfl
@[simp] theorem State.cpHunt_marks (s : State) : (s.cpHunt).marks = s.marks := rfl
@[simp] theorem State.cpHunt_sectorMark (s : State) : (s.cpHunt).sectorMark = s.sectorMark := rfl
@[simp] theorem State.cpHunt_mlRx (s : State) : (s.cpHunt).mlRx = s.mlRx := rfl
@[simp] theorem State.cpHunt_lastFrame (s : State) : (s.cpHunt).lastFrame = s.lastFrame := rfl
@[simp] theorem State.cpHunt_modemSilent (s : State) : (s.cpHunt).modemSilent = s.modemSilent := rfl
@[simp] theorem State.cpHunt_silenceMs (s : State) : (s.cpHunt).silenceMs = s.silenceMs := rfl
@[simp] theorem State.cpHunt_outbox (s : State) : (s.cpHunt).outbox = s.outbox := rfl
@[simp] theorem State.cpHunt_terms (s : State) : (s.cpHunt).terms = s.terms := rfl
@[simp] theorem State.cpHunt_queue (s : State) : (s.cpHunt).queue = s.queue := rfl
@[simp] theorem State.cpHunt_stack (s : State) : (s.cpHunt).stack = s.stack := rfl
@[simp] theorem State.cpHunt_serial (s : State) : (s.cpHunt).serial = s.serial := rfl
@[simp] theorem State.cpHunt_hold (s : State) : (s.cpHunt).hold = s.hold := rfl
@[simp] theorem State.cpHunt_preemptPending (s : State) : (s.cpHunt).preemptPending = s.preemptPending := rfl
@[simp] theorem State.cpHunt_engines (s : State) : (s.cpHunt).engines = s.engines := rfl
@[simp] theorem State.cpHunt_polls (s : State) : (s.cpHunt).polls = s.polls := rfl
@[simp] theorem State.cpHunt_cursor (s : State) : (s.cpHunt).cursor = s.cursor := rfl
@[simp] theorem State.cpHunt_mode (s : State) : (s.cpHunt).mode = s.mode := rfl
@[simp] theorem State.cpHunt_lossWindow (s : State) : (s.cpHunt).lossWindow = s.lossWindow := rfl
@[simp] theorem State.cpHunt_pending (s : State) : (s.cpHunt).pending = s.pending := rfl
@[simp] theorem State.cpHunt_freeIndex (s : State) : (s.cpHunt).freeIndex = s.freeIndex := rfl
@[simp] theorem State.cpHunt_term (s : State) (u : TermId) : (s.cpHunt).term u = s.term u := rfl
@[simp] theorem State.cpHunt_job (s : State) (e' : EngineId) : (s.cpHunt).job e' = s.job e' := rfl
@[simp] theorem State.cpHunt_poll (s : State) (k' : PollTag) : (s.cpHunt).poll k' = s.poll k' := rfl
@[simp] theorem State.cpHunt_marked (s : State) (u : TermId) : (s.cpHunt).marked u = s.marked u := rfl

/-! ### markStale -/

@[simp] theorem State.markStale_cpRx (s : State) (t : TermId) : (s.markStale t).cpRx = s.cpRx := rfl
@[simp] theorem State.markStale_reqBuf (s : State) (t : TermId) : (s.markStale t).reqBuf = s.reqBuf := rfl
@[simp] theorem State.markStale_reply (s : State) (t : TermId) : (s.markStale t).reply = s.reply := rfl
@[simp] theorem State.markStale_startCause (s : State) (t : TermId) : (s.markStale t).startCause = s.startCause := rfl
@[simp] theorem State.markStale_params (s : State) (t : TermId) : (s.markStale t).params = s.params := rfl
@[simp] theorem State.markStale_ladder (s : State) (t : TermId) : (s.markStale t).ladder = s.ladder := rfl
@[simp] theorem State.markStale_marks (s : State) (t : TermId) : (s.markStale t).marks = s.marks := rfl
@[simp] theorem State.markStale_sectorMark (s : State) (t : TermId) : (s.markStale t).sectorMark = s.sectorMark := rfl
@[simp] theorem State.markStale_mlRx (s : State) (t : TermId) : (s.markStale t).mlRx = s.mlRx := rfl
@[simp] theorem State.markStale_lastFrame (s : State) (t : TermId) : (s.markStale t).lastFrame = s.lastFrame := rfl
@[simp] theorem State.markStale_modemSilent (s : State) (t : TermId) :
    (s.markStale t).modemSilent = s.modemSilent := rfl
@[simp] theorem State.markStale_silenceMs (s : State) (t : TermId) : (s.markStale t).silenceMs = s.silenceMs := rfl
@[simp] theorem State.markStale_outbox (s : State) (t : TermId) : (s.markStale t).outbox = s.outbox := rfl
@[simp] theorem State.markStale_terms (s : State) (t : TermId) : (s.markStale t).terms = s.terms := rfl
@[simp] theorem State.markStale_queue (s : State) (t : TermId) : (s.markStale t).queue = s.queue := rfl
@[simp] theorem State.markStale_stack (s : State) (t : TermId) : (s.markStale t).stack = s.stack := rfl
@[simp] theorem State.markStale_serial (s : State) (t : TermId) : (s.markStale t).serial = s.serial := rfl
@[simp] theorem State.markStale_hold (s : State) (t : TermId) : (s.markStale t).hold = s.hold := rfl
@[simp] theorem State.markStale_preemptPending (s : State) (t : TermId) :
    (s.markStale t).preemptPending = s.preemptPending := rfl
@[simp] theorem State.markStale_engines (s : State) (t : TermId) : (s.markStale t).engines = s.engines := rfl
@[simp] theorem State.markStale_cursor (s : State) (t : TermId) : (s.markStale t).cursor = s.cursor := rfl
@[simp] theorem State.markStale_mode (s : State) (t : TermId) : (s.markStale t).mode = s.mode := rfl
@[simp] theorem State.markStale_lossWindow (s : State) (t : TermId) : (s.markStale t).lossWindow = s.lossWindow := rfl
@[simp] theorem State.markStale_pending (s : State) (t : TermId) : (s.markStale t).pending = s.pending := rfl
@[simp] theorem State.markStale_freeIndex (s : State) (t : TermId) : (s.markStale t).freeIndex = s.freeIndex := rfl
@[simp] theorem State.markStale_term (s : State) (t : TermId) (u : TermId) : (s.markStale t).term u = s.term u := rfl
@[simp] theorem State.markStale_job (s : State) (t : TermId) (e' : EngineId) :
    (s.markStale t).job e' = s.job e' := rfl
@[simp] theorem State.markStale_marked (s : State) (t : TermId) (u : TermId) :
    (s.markStale t).marked u = s.marked u := rfl

/-! ### clearHeard -/

@[simp] theorem State.clearHeard_cpRx (s : State) : (s.clearHeard).cpRx = s.cpRx := rfl
@[simp] theorem State.clearHeard_reqBuf (s : State) : (s.clearHeard).reqBuf = s.reqBuf := rfl
@[simp] theorem State.clearHeard_reply (s : State) : (s.clearHeard).reply = s.reply := rfl
@[simp] theorem State.clearHeard_startCause (s : State) : (s.clearHeard).startCause = s.startCause := rfl
@[simp] theorem State.clearHeard_params (s : State) : (s.clearHeard).params = s.params := rfl
@[simp] theorem State.clearHeard_ladder (s : State) : (s.clearHeard).ladder = s.ladder := rfl
@[simp] theorem State.clearHeard_marks (s : State) : (s.clearHeard).marks = s.marks := rfl
@[simp] theorem State.clearHeard_sectorMark (s : State) : (s.clearHeard).sectorMark = s.sectorMark := rfl
@[simp] theorem State.clearHeard_mlRx (s : State) : (s.clearHeard).mlRx = s.mlRx := rfl
@[simp] theorem State.clearHeard_lastFrame (s : State) : (s.clearHeard).lastFrame = s.lastFrame := rfl
@[simp] theorem State.clearHeard_modemSilent (s : State) : (s.clearHeard).modemSilent = s.modemSilent := rfl
@[simp] theorem State.clearHeard_silenceMs (s : State) : (s.clearHeard).silenceMs = s.silenceMs := rfl
@[simp] theorem State.clearHeard_outbox (s : State) : (s.clearHeard).outbox = s.outbox := rfl
@[simp] theorem State.clearHeard_queue (s : State) : (s.clearHeard).queue = s.queue := rfl
@[simp] theorem State.clearHeard_stack (s : State) : (s.clearHeard).stack = s.stack := rfl
@[simp] theorem State.clearHeard_serial (s : State) : (s.clearHeard).serial = s.serial := rfl
@[simp] theorem State.clearHeard_hold (s : State) : (s.clearHeard).hold = s.hold := rfl
@[simp] theorem State.clearHeard_preemptPending (s : State) : (s.clearHeard).preemptPending = s.preemptPending := rfl
@[simp] theorem State.clearHeard_engines (s : State) : (s.clearHeard).engines = s.engines := rfl
@[simp] theorem State.clearHeard_polls (s : State) : (s.clearHeard).polls = s.polls := rfl
@[simp] theorem State.clearHeard_cursor (s : State) : (s.clearHeard).cursor = s.cursor := rfl
@[simp] theorem State.clearHeard_mode (s : State) : (s.clearHeard).mode = s.mode := rfl
@[simp] theorem State.clearHeard_lossWindow (s : State) : (s.clearHeard).lossWindow = s.lossWindow := rfl
@[simp] theorem State.clearHeard_pending (s : State) : (s.clearHeard).pending = s.pending := rfl
@[simp] theorem State.clearHeard_freeIndex (s : State) : (s.clearHeard).freeIndex = s.freeIndex := rfl
@[simp] theorem State.clearHeard_job (s : State) (e' : EngineId) : (s.clearHeard).job e' = s.job e' := rfl
@[simp] theorem State.clearHeard_poll (s : State) (k' : PollTag) : (s.clearHeard).poll k' = s.poll k' := rfl
@[simp] theorem State.clearHeard_marked (s : State) (u : TermId) : (s.clearHeard).marked u = s.marked u := rfl

/-! ### expireLosses -/

@[simp] theorem State.expireLosses_cpRx (s : State) : (s.expireLosses).cpRx = s.cpRx := rfl
@[simp] theorem State.expireLosses_reqBuf (s : State) : (s.expireLosses).reqBuf = s.reqBuf := rfl
@[simp] theorem State.expireLosses_reply (s : State) : (s.expireLosses).reply = s.reply := rfl
@[simp] theorem State.expireLosses_startCause (s : State) : (s.expireLosses).startCause = s.startCause := rfl
@[simp] theorem State.expireLosses_params (s : State) : (s.expireLosses).params = s.params := rfl
@[simp] theorem State.expireLosses_ladder (s : State) : (s.expireLosses).ladder = s.ladder := rfl
@[simp] theorem State.expireLosses_marks (s : State) : (s.expireLosses).marks = s.marks := rfl
@[simp] theorem State.expireLosses_sectorMark (s : State) : (s.expireLosses).sectorMark = s.sectorMark := rfl
@[simp] theorem State.expireLosses_mlRx (s : State) : (s.expireLosses).mlRx = s.mlRx := rfl
@[simp] theorem State.expireLosses_lastFrame (s : State) : (s.expireLosses).lastFrame = s.lastFrame := rfl
@[simp] theorem State.expireLosses_modemSilent (s : State) : (s.expireLosses).modemSilent = s.modemSilent := rfl
@[simp] theorem State.expireLosses_silenceMs (s : State) : (s.expireLosses).silenceMs = s.silenceMs := rfl
@[simp] theorem State.expireLosses_outbox (s : State) : (s.expireLosses).outbox = s.outbox := rfl
@[simp] theorem State.expireLosses_terms (s : State) : (s.expireLosses).terms = s.terms := rfl
@[simp] theorem State.expireLosses_queue (s : State) : (s.expireLosses).queue = s.queue := rfl
@[simp] theorem State.expireLosses_stack (s : State) : (s.expireLosses).stack = s.stack := rfl
@[simp] theorem State.expireLosses_serial (s : State) : (s.expireLosses).serial = s.serial := rfl
@[simp] theorem State.expireLosses_hold (s : State) : (s.expireLosses).hold = s.hold := rfl
@[simp] theorem State.expireLosses_preemptPending (s : State) :
    (s.expireLosses).preemptPending = s.preemptPending := rfl
@[simp] theorem State.expireLosses_engines (s : State) : (s.expireLosses).engines = s.engines := rfl
@[simp] theorem State.expireLosses_polls (s : State) : (s.expireLosses).polls = s.polls := rfl
@[simp] theorem State.expireLosses_cursor (s : State) : (s.expireLosses).cursor = s.cursor := rfl
@[simp] theorem State.expireLosses_mode (s : State) : (s.expireLosses).mode = s.mode := rfl
@[simp] theorem State.expireLosses_pending (s : State) : (s.expireLosses).pending = s.pending := rfl
@[simp] theorem State.expireLosses_freeIndex (s : State) : (s.expireLosses).freeIndex = s.freeIndex := rfl
@[simp] theorem State.expireLosses_term (s : State) (u : TermId) : (s.expireLosses).term u = s.term u := rfl
@[simp] theorem State.expireLosses_job (s : State) (e' : EngineId) : (s.expireLosses).job e' = s.job e' := rfl
@[simp] theorem State.expireLosses_poll (s : State) (k' : PollTag) : (s.expireLosses).poll k' = s.poll k' := rfl
@[simp] theorem State.expireLosses_marked (s : State) (u : TermId) : (s.expireLosses).marked u = s.marked u := rfl

/-! ### reexamine -/

@[simp] theorem State.reexamine_cpRx (s : State) : (s.reexamine).cpRx = s.cpRx := rfl
@[simp] theorem State.reexamine_reqBuf (s : State) : (s.reexamine).reqBuf = s.reqBuf := rfl
@[simp] theorem State.reexamine_reply (s : State) : (s.reexamine).reply = s.reply := rfl
@[simp] theorem State.reexamine_startCause (s : State) : (s.reexamine).startCause = s.startCause := rfl
@[simp] theorem State.reexamine_params (s : State) : (s.reexamine).params = s.params := rfl
@[simp] theorem State.reexamine_ladder (s : State) : (s.reexamine).ladder = s.ladder := rfl
@[simp] theorem State.reexamine_marks (s : State) : (s.reexamine).marks = s.marks := rfl
@[simp] theorem State.reexamine_sectorMark (s : State) : (s.reexamine).sectorMark = s.sectorMark := rfl
@[simp] theorem State.reexamine_mlRx (s : State) : (s.reexamine).mlRx = s.mlRx := rfl
@[simp] theorem State.reexamine_lastFrame (s : State) : (s.reexamine).lastFrame = s.lastFrame := rfl
@[simp] theorem State.reexamine_modemSilent (s : State) : (s.reexamine).modemSilent = s.modemSilent := rfl
@[simp] theorem State.reexamine_silenceMs (s : State) : (s.reexamine).silenceMs = s.silenceMs := rfl
@[simp] theorem State.reexamine_outbox (s : State) : (s.reexamine).outbox = s.outbox := rfl
@[simp] theorem State.reexamine_terms (s : State) : (s.reexamine).terms = s.terms := rfl
@[simp] theorem State.reexamine_queue (s : State) : (s.reexamine).queue = s.queue := rfl
@[simp] theorem State.reexamine_stack (s : State) : (s.reexamine).stack = s.stack := rfl
@[simp] theorem State.reexamine_serial (s : State) : (s.reexamine).serial = s.serial := rfl
@[simp] theorem State.reexamine_hold (s : State) : (s.reexamine).hold = s.hold := rfl
@[simp] theorem State.reexamine_engines (s : State) : (s.reexamine).engines = s.engines := rfl
@[simp] theorem State.reexamine_polls (s : State) : (s.reexamine).polls = s.polls := rfl
@[simp] theorem State.reexamine_cursor (s : State) : (s.reexamine).cursor = s.cursor := rfl
@[simp] theorem State.reexamine_mode (s : State) : (s.reexamine).mode = s.mode := rfl
@[simp] theorem State.reexamine_lossWindow (s : State) : (s.reexamine).lossWindow = s.lossWindow := rfl
@[simp] theorem State.reexamine_pending (s : State) : (s.reexamine).pending = s.pending := rfl
@[simp] theorem State.reexamine_freeIndex (s : State) : (s.reexamine).freeIndex = s.freeIndex := rfl
@[simp] theorem State.reexamine_term (s : State) (u : TermId) : (s.reexamine).term u = s.term u := rfl
@[simp] theorem State.reexamine_job (s : State) (e' : EngineId) : (s.reexamine).job e' = s.job e' := rfl
@[simp] theorem State.reexamine_poll (s : State) (k' : PollTag) : (s.reexamine).poll k' = s.poll k' := rfl
@[simp] theorem State.reexamine_marked (s : State) (u : TermId) : (s.reexamine).marked u = s.marked u := rfl

/-! ### The place written -/

theorem State.setTerm_term (s : State) (t u : TermId) (r : TermRec) :
    (s.setTerm t r).term u = if u = t then r else s.term u := get_set ..

@[simp] theorem State.setTerm_term_self (s : State) (t : TermId) (r : TermRec) : (s.setTerm t r).term t = r := by
  simp [State.setTerm_term]

theorem State.setJob_job (s : State) (e f : EngineId) (j : Option Job) :
    (s.setJob e j).job f = if f = e then j else s.job f := get_set ..

@[simp] theorem State.setJob_job_self (s : State) (e : EngineId) (j : Option Job) : (s.setJob e j).job e = j := by
  simp [State.setJob_job]

theorem State.setPoll_poll (s : State) (k l : PollTag) (p : Option PollEntry) :
    (s.setPoll k p).poll l = if l = k then p else s.poll l := get_set ..

@[simp] theorem State.setPoll_poll_self (s : State) (k : PollTag) (p : Option PollEntry) :
    (s.setPoll k p).poll k = p := by
  simp [State.setPoll_poll]

theorem State.mark_marked (s : State) (t u : TermId) :
    (s.mark t).marked u = if u = t then true else s.marked u := get_set ..

@[simp] theorem State.setQueue_queue (s : State) (q : List TermId) : (s.setQueue q).queue = q := rfl
@[simp] theorem State.setStack_stack (s : State) (k : List Context) : (s.setStack k).stack = k := rfl
@[simp] theorem State.send_outbox (s : State) (m : OutMsg) : (s.send m).outbox = s.outbox ++ [m] := rfl
@[simp] theorem State.nextSerial_serial (s : State) : s.nextSerial.serial = s.serial + 1 := rfl
@[simp] theorem State.answer_reply (s : State) (r : Reply) : (s.answer r).reply = some r := rfl
@[simp] theorem State.mlHunt_mlRx (s : State) : s.mlHunt.mlRx = .hunting := rfl
@[simp] theorem State.cpHunt_cpRx (s : State) : s.cpHunt.cpRx = .hunting := rfl
@[simp] theorem State.leaveQueue_queue (s : State) (t : TermId) :
    (s.leaveQueue t).queue = s.queue.filter (· ≠ t) := rfl
@[simp] theorem State.expireLosses_lossWindow (s : State) :
    s.expireLosses.lossWindow = s.lossWindow.filter (· ≠ 0) := rfl
@[simp] theorem State.reexamine_preemptPending (s : State) : s.reexamine.preemptPending = s.preemptBlocked := rfl

theorem State.complete_term (s : State) (t u : TermId) :
    (s.complete t).term u = if u = t then (s.term t).completed s.lastFrame else s.term u := get_set ..

theorem State.markStale_poll (s : State) (t : TermId) (k : PollTag) :
    (s.markStale t).poll k = (s.poll k).map (fun p => if p.term = t then { p with stale := true } else p) := by
  simp [State.markStale, State.poll]

theorem State.clearHeard_term (s : State) (t : TermId) :
    s.clearHeard.term t = if (s.term t).state = .queued then { s.term t with heard := false } else s.term t :=
  mapPlaces_get ..

end Sys2Proof.Machine
end

