-- ==== Sys2Proof/Laws/Kept.lean ====
section
/-! SUPPORT. What the work of one event never writes (`kept`), and what the arbiter never writes (`arbKept`): one lemma for
each shared operation. The lemma of a field follows by `congrArg` from the lemma of the operation. -/

namespace Sys2Proof.Machine

/-- The fields that the work of an event does not write: the control port, the parameters, the ladder, the modem link's
receiver and clocks, HOLD, the sweep cursor and the model's own fields. -/
structure Kept where
  cpRx : Receiver
  reqBuf : Option ReqFrame
  reply : Option Reply
  startCause : StartCause
  params : SectorParams
  ladder : Ladder
  mlRx : Receiver
  lastFrame : FrameNo
  modemSilent : Bool
  silenceMs : Nat
  hold : Bool
  cursor : Nat
  pending : List Instr
  freeIndex : Nat

def State.kept (s : State) : Kept :=
  ⟨s.cpRx, s.reqBuf, s.reply, s.startCause, s.params, s.ladder, s.mlRx, 
   s.lastFrame, s.modemSilent, s.silenceMs, s.hold, s.cursor, s.pending, s.freeIndex⟩

/-- The fields that the arbiter does not write. -/
structure ArbKept where
  kept : Kept
  sectorMark : Bool
  outbox : List OutMsg
  preemptPending : Bool
  polls : Vector (Option PollEntry) 8
  mode : Mode
  lossWindow : List Nat

def State.arbKept (s : State) : ArbKept :=
  ⟨s.kept, s.sectorMark, s.outbox, s.preemptPending, s.polls, s.mode, s.lossWindow⟩

/-! ### The fields one by one -/

theorem kept_cpRx {s v : State} (h : v.kept = s.kept) : v.cpRx = s.cpRx := congrArg Kept.cpRx h
theorem kept_reqBuf {s v : State} (h : v.kept = s.kept) : v.reqBuf = s.reqBuf := congrArg Kept.reqBuf h
theorem kept_reply {s v : State} (h : v.kept = s.kept) : v.reply = s.reply := congrArg Kept.reply h
theorem kept_startCause {s v : State} (h : v.kept = s.kept) : v.startCause = s.startCause :=
    congrArg Kept.startCause h
theorem kept_params {s v : State} (h : v.kept = s.kept) : v.params = s.params := congrArg Kept.params h
theorem kept_ladder {s v : State} (h : v.kept = s.kept) : v.ladder = s.ladder := congrArg Kept.ladder h
theorem kept_mlRx {s v : State} (h : v.kept = s.kept) : v.mlRx = s.mlRx := congrArg Kept.mlRx h
theorem kept_lastFrame {s v : State} (h : v.kept = s.kept) : v.lastFrame = s.lastFrame := congrArg Kept.lastFrame h
theorem kept_modemSilent {s v : State} (h : v.kept = s.kept) : v.modemSilent = s.modemSilent :=
    congrArg Kept.modemSilent h
theorem kept_silenceMs {s v : State} (h : v.kept = s.kept) : v.silenceMs = s.silenceMs := congrArg Kept.silenceMs h
theorem kept_hold {s v : State} (h : v.kept = s.kept) : v.hold = s.hold := congrArg Kept.hold h
theorem kept_cursor {s v : State} (h : v.kept = s.kept) : v.cursor = s.cursor := congrArg Kept.cursor h
theorem kept_pending {s v : State} (h : v.kept = s.kept) : v.pending = s.pending := congrArg Kept.pending h
theorem kept_freeIndex {s v : State} (h : v.kept = s.kept) : v.freeIndex = s.freeIndex := congrArg Kept.freeIndex h

theorem arbKept_kept {s v : State} (h : v.arbKept = s.arbKept) : v.kept = s.kept := congrArg ArbKept.kept h
theorem arbKept_sectorMark {s v : State} (h : v.arbKept = s.arbKept) : v.sectorMark = s.sectorMark :=
    congrArg ArbKept.sectorMark h
theorem arbKept_outbox {s v : State} (h : v.arbKept = s.arbKept) : v.outbox = s.outbox := congrArg ArbKept.outbox h
theorem arbKept_preemptPending {s v : State} (h : v.arbKept = s.arbKept) : v.preemptPending = s.preemptPending :=
    congrArg ArbKept.preemptPending h
theorem arbKept_polls {s v : State} (h : v.arbKept = s.arbKept) : v.polls = s.polls := congrArg ArbKept.polls h
theorem arbKept_mode {s v : State} (h : v.arbKept = s.arbKept) : v.mode = s.mode := congrArg ArbKept.mode h
theorem arbKept_lossWindow {s v : State} (h : v.arbKept = s.arbKept) : v.lossWindow = s.lossWindow :=
    congrArg ArbKept.lossWindow h

/-! ### The updates -/

@[simp] theorem State.setTerm_kept (s : State) (t : TermId) (r : TermRec) : (s.setTerm t r).kept = s.kept := rfl
@[simp] theorem State.setTerm_arbKept (s : State) (t : TermId) (r : TermRec) :
    (s.setTerm t r).arbKept = s.arbKept := rfl
@[simp] theorem State.setJob_kept (s : State) (e : EngineId) (j : Option Job) : (s.setJob e j).kept = s.kept := rfl
@[simp] theorem State.setJob_arbKept (s : State) (e : EngineId) (j : Option Job) :
    (s.setJob e j).arbKept = s.arbKept := rfl
@[simp] theorem State.setPoll_kept (s : State) (k : PollTag) (p : Option PollEntry) :
    (s.setPoll k p).kept = s.kept := rfl
@[simp] theorem State.setQueue_kept (s : State) (q : List TermId) : (s.setQueue q).kept = s.kept := rfl
@[simp] theorem State.setQueue_arbKept (s : State) (q : List TermId) : (s.setQueue q).arbKept = s.arbKept := rfl
@[simp] theorem State.setStack_kept (s : State) (k : List Context) : (s.setStack k).kept = s.kept := rfl
@[simp] theorem State.setStack_arbKept (s : State) (k : List Context) : (s.setStack k).arbKept = s.arbKept := rfl
@[simp] theorem State.mark_kept (s : State) (t : TermId) : (s.mark t).kept = s.kept := rfl
@[simp] theorem State.mark_arbKept (s : State) (t : TermId) : (s.mark t).arbKept = s.arbKept := rfl
@[simp] theorem State.send_kept (s : State) (m : OutMsg) : (s.send m).kept = s.kept := rfl
@[simp] theorem State.nextSerial_kept (s : State) : (s.nextSerial).kept = s.kept := rfl
@[simp] theorem State.nextSerial_arbKept (s : State) : (s.nextSerial).arbKept = s.arbKept := rfl
@[simp] theorem State.leaveQueue_kept (s : State) (t : TermId) : (s.leaveQueue t).kept = s.kept := rfl
@[simp] theorem State.leaveQueue_arbKept (s : State) (t : TermId) : (s.leaveQueue t).arbKept = s.arbKept := rfl
@[simp] theorem State.joinEnd_kept (s : State) (t : TermId) : (s.joinEnd t).kept = s.kept := rfl
@[simp] theorem State.joinEnd_arbKept (s : State) (t : TermId) : (s.joinEnd t).arbKept = s.arbKept := rfl
@[simp] theorem State.complete_kept (s : State) (t : TermId) : (s.complete t).kept = s.kept := rfl
@[simp] theorem State.complete_arbKept (s : State) (t : TermId) : (s.complete t).arbKept = s.arbKept := rfl
@[simp] theorem State.closeWindow_kept (s : State) (t : TermId) : (s.closeWindow t).kept = s.kept := rfl
@[simp] theorem State.closeWindow_arbKept (s : State) (t : TermId) : (s.closeWindow t).arbKept = s.arbKept := rfl
@[simp] theorem State.markStale_kept (s : State) (t : TermId) : (s.markStale t).kept = s.kept := rfl
@[simp] theorem State.clearHeard_kept (s : State) : (s.clearHeard).kept = s.kept := rfl
@[simp] theorem State.clearHeard_arbKept (s : State) : (s.clearHeard).arbKept = s.arbKept := rfl
@[simp] theorem State.expireLosses_kept (s : State) : (s.expireLosses).kept = s.kept := rfl
@[simp] theorem State.reexamine_kept (s : State) : (s.reexamine).kept = s.kept := rfl


/-! ### Transitions, profiles, the queue -/

@[simp] theorem State.transition_arbKept (s : State) (t : TermId) (a b : TermState) :
    (s.transition t a b).arbKept = s.arbKept := by
  unfold State.transition; split <;> simp

@[simp] theorem State.transition_kept (s : State) (t : TermId) (a b : TermState) :
    (s.transition t a b).kept = s.kept :=
  arbKept_kept (by simp)

@[simp] theorem State.writeProfiles_arbKept (s : State) (t : TermId) (up down : Nat) :
    (s.writeProfiles t up down).arbKept = s.arbKept := by
  unfold State.writeProfiles; dsimp only; split <;> simp

@[simp] theorem State.writeProfiles_kept (s : State) (t : TermId) (up down : Nat) :
    (s.writeProfiles t up down).kept = s.kept :=
  arbKept_kept (by simp)

@[simp] theorem State.setMode_kept (s : State) (m : Mode) : (s.setMode m).kept = s.kept := by
  unfold State.setMode; split <;> rfl

@[simp] theorem State.join_kept (s : State) (t : TermId) : (s.join t).kept = s.kept := by
  unfold State.join; dsimp only; split <;> simp

/-! ### The arbiter -/

@[simp] theorem State.grant_arbKept (s : State) (e : EngineId) (t : TermId) : (s.grant e t).arbKept = s.arbKept := by
  simp [State.grant]

@[simp] theorem State.grant_kept (s : State) (e : EngineId) (t : TermId) : (s.grant e t).kept = s.kept :=
  arbKept_kept (by simp)

@[simp] theorem State.resume_arbKept (s : State) (e : EngineId) (c : Context) (below : List Context) :
    (s.resume e c below).arbKept = s.arbKept := by
  simp [State.resume]

@[simp] theorem State.resume_kept (s : State) (e : EngineId) (c : Context) (below : List Context) :
    (s.resume e c below).kept = s.kept :=
  arbKept_kept (by simp)

@[simp] theorem State.fillEngine_arbKept (s : State) (e : EngineId) : (s.fillEngine e).arbKept = s.arbKept := by
  unfold State.fillEngine; split <;> [rfl; split] <;> [rfl; simp; simp; split] <;> simp

@[simp] theorem State.fillEngine_kept (s : State) (e : EngineId) : (s.fillEngine e).kept = s.kept :=
  arbKept_kept (by simp)

@[simp] theorem State.fill_arbKept (s : State) : (s.fill).arbKept = s.arbKept := by
  simp [State.fill, allEngines]

@[simp] theorem State.fill_kept (s : State) : (s.fill).kept = s.kept :=
  arbKept_kept (by simp)

@[simp] theorem State.preempt_arbKept (s : State) (e : EngineId) (j : Job) (t : TermId) :
    (s.preempt e j t).arbKept = s.arbKept := by
  simp [State.preempt]

@[simp] theorem State.preempt_kept (s : State) (e : EngineId) (j : Job) (t : TermId) :
    (s.preempt e j t).kept = s.kept :=
  arbKept_kept (by simp)

@[simp] theorem preemptLoop_arbKept (n : Nat) (s : State) : (preemptLoop n s).arbKept = s.arbKept := by
  induction n generalizing s with
  | zero => rfl
  | succ n ih =>
    unfold preemptLoop
    split
    · rfl
    · split
      · rw [ih]; simp
      · rfl

@[simp] theorem State.evaluate_arbKept (s : State) : (s.evaluate).arbKept = s.arbKept := by
  unfold State.evaluate; split <;> simp

@[simp] theorem State.evaluate_kept (s : State) : (s.evaluate).kept = s.kept :=
  arbKept_kept (by simp)

@[simp] theorem Work.close_kept (w : Work) : w.close.kept = w.st.kept := by
  unfold Work.close; split <;> simp

/-- What the end of an event leaves: everything the arbiter does not write but the preempt-pending flag. -/
theorem Work.close_fields (w : Work) :
    w.close.sectorMark = w.st.sectorMark ∧ w.close.outbox = w.st.outbox ∧ w.close.polls = w.st.polls ∧
    w.close.mode = w.st.mode ∧ w.close.lossWindow = w.st.lossWindow := by
  have h : (if w.due = true then w.st.evaluate else w.st).arbKept = w.st.arbKept := by split <;> simp
  exact ⟨(arbKept_sectorMark h :), (arbKept_outbox h :), (arbKept_polls h :), (arbKept_mode h :),
    (arbKept_lossWindow h :)⟩

/-! ### Power commands -/

@[simp] theorem State.noteCommand_arbKept (s : State) (t : TermId) (f : FrameNo) :
    (s.noteCommand t f).arbKept = s.arbKept := by
  unfold State.noteCommand; split <;> [rfl; split] <;> [rfl; split] <;> simp

@[simp] theorem State.noteCommand_kept (s : State) (t : TermId) (f : FrameNo) :
    (s.noteCommand t f).kept = s.kept := by
  exact arbKept_kept (by simp)

@[simp] theorem State.requestPower_kept (s : State) (t : TermId) (v : Nat) : (s.requestPower t v).kept = s.kept := by
  unfold State.requestPower; dsimp only; split <;> [simp; split] <;> simp

@[simp] theorem State.clampPower_kept (s : State) (t : TermId) : (s.clampPower t).kept = s.kept := by
  simp [State.clampPower]

@[simp] theorem State.admitTerm_kept (s : State) (t : TermId) (v : Nat) : (s.admitTerm t v).kept = s.kept := by
  simp [State.admitTerm]

/-! ### Loss and outage -/

@[simp] theorem State.abandonJob_kept (s : State) (e : EngineId) : (s.abandonJob e).kept = s.kept := by
  unfold State.abandonJob; split <;> [rfl; skip]; dsimp only; split <;> simp

theorem foldl_transition_kept (l : List TermId) (a b : TermState) (s : State) :
    (l.foldl (fun s t => s.transition t a b) s).kept = s.kept := by
  induction l generalizing s with
  | nil => rfl
  | cons t l ih => rw [List.foldl_cons, ih]; simp

@[simp] theorem State.enterOutage_kept (s : State) : (s.enterOutage).kept = s.kept := by
  unfold State.enterOutage
  dsimp only
  generalize hx : List.foldl (fun (s : State) t => s.transition t .suspended .queued) _ _ = x
  have h : x.kept = s.kept := by rw [← hx, foldl_transition_kept]; simp [allEngines]
  exact h

@[simp] theorem State.offerLoss_kept (s : State) : (s.offerLoss).kept = s.kept := by
  unfold State.offerLoss; split <;> [rfl; skip]; dsimp only; split <;> [rw [State.enterOutage_kept]; skip] <;> rfl

@[simp] theorem State.lose_kept (s : State) (t : TermId) (reason : LossReason) : (s.lose t reason).kept = s.kept := by
  unfold State.lose; dsimp only; split <;> simp

/-! ### The engines -/

@[simp] theorem State.exhaust_kept (s : State) (e : EngineId) (j : Job) : (s.exhaust e j).kept = s.kept := by
  unfold State.exhaust; dsimp only; split <;> split <;> simp

@[simp] theorem State.returnToFine_kept (s : State) (e : EngineId) (j : Job) (power : Nat) :
    (s.returnToFine e j power).st.kept = s.kept := by
  unfold State.returnToFine; dsimp only; split <;> simp [Work.trigger, Work.quiet]

@[simp] theorem State.enterVerify_kept (s : State) (e : EngineId) (j : Job) : (s.enterVerify e j).kept = s.kept := by
  simp [State.enterVerify]

@[simp] theorem State.beginSettle_kept (s : State) (e : EngineId) (j : Job) (f : FrameNo) :
    (s.beginSettle e j f).kept = s.kept := by
  unfold State.beginSettle; dsimp only; split <;> simp

@[simp] theorem State.endConfirm_kept (s : State) (e : EngineId) (j : Job) (p fu : Nat) :
    (s.endConfirm e j p fu).kept = s.kept := by
  simp [State.endConfirm]

@[simp] theorem State.rampStep_kept (s : State) (e : EngineId) (j : Job) (target step : Nat) (dir : StepDir) (d :
    Nat) :
    (s.rampStep e j target step dir d).kept = s.kept := by
  unfold State.rampStep; dsimp only; split <;> simp

@[simp] theorem State.rampTick_kept (s : State) (e : EngineId) (j : Job) (rp : Ramp) :
    (s.rampTick e j rp).kept = s.kept := by
  unfold State.rampTick; dsimp only; split <;> [simp; split] <;> simp

@[simp] theorem State.settleReport_kept (s : State) (e : EngineId) (j : Job) (b : FrameNo) (o : Option Response) :
    (s.settleReport e j b o).st.kept = s.kept := by
  unfold State.settleReport
  split <;> [rfl; split] <;> [simp [Work.quiet]; skip]
  dsimp only; split <;> simp [Work.quiet]

@[simp] theorem Work.checkClear_kept (w : Work) : w.checkClear.st.kept = w.st.kept := by
  unfold Work.checkClear; split <;> simp

@[simp] theorem State.handBack_kept (s : State) (e : EngineId) (t : TermId) (up down : Nat) :
    (s.handBack e t up down).st.kept = s.kept := by
  simp [State.handBack, Work.trigger]

@[simp] theorem State.verifyAccepted_kept (s : State) (e : EngineId) (j : Job) (g : Gate) :
    (s.verifyAccepted e j g).st.kept = s.kept := by
  unfold State.verifyAccepted; dsimp only; split <;> simp [Work.trigger]

@[simp] theorem State.judgeVerify_kept (s : State) (e : EngineId) (j : Job) (g : Gate) :
    (s.judgeVerify e j g).st.kept = s.kept := by
  unfold State.judgeVerify; split <;> simp

@[simp] theorem State.verifyReport_kept (s : State) (e : EngineId) (j : Job) (b : FrameNo) (o : Option Response) :
    (s.verifyReport e j b o).st.kept = s.kept := by
  unfold State.verifyReport
  split <;> [rfl; split] <;> [rfl; skip]
  dsimp only; split <;> simp [Work.quiet]

@[simp] theorem State.searchAccepted_kept (s : State) (e : EngineId) (j : Job) (p fu : Nat) :
    (s.searchAccepted e j p fu).kept = s.kept := by
  unfold State.searchAccepted; dsimp only; (repeat' split) <;> simp

@[simp] theorem State.searchMissed_kept (s : State) (e : EngineId) (j : Job) (g : Gate) (v : Verdict) :
    (s.searchMissed e j g v).st.kept = s.kept := by
  unfold State.searchMissed; dsimp only; split <;> simp [Work.trigger, Work.quiet]

@[simp] theorem State.judgeSearch_kept (s : State) (e : EngineId) (j : Job) (g : Gate) :
    (s.judgeSearch e j g).st.kept = s.kept := by
  unfold State.judgeSearch; split <;> simp [Work.quiet]

@[simp] theorem State.handOutcome_kept (s : State) (e : EngineId) (j : Job) (o : Option Response) :
    (s.handOutcome e j o).st.kept = s.kept := by
  unfold State.handOutcome; dsimp only
  split <;> [simp [Work.quiet]; split] <;> [split; skip] <;> simp [Work.quiet]

/-! ### Traffic and polls -/

@[simp] theorem State.trackPower_kept (s : State) (t : TermId) (target : Nat) :
    (s.trackPower t target).kept = s.kept := by
  unfold State.trackPower; dsimp only; split <;> [rfl; split] <;> simp

@[simp] theorem State.takePair_kept (s : State) (t : TermId) (up down : Nat) (upgraded : Bool) :
    (s.takePair t up down upgraded).kept = s.kept := by
  unfold State.takePair; dsimp only; split <;> split <;> simp

@[simp] theorem State.sampleBurst_kept (s : State) (t : TermId) (b : FrameNo) (m : Response) :
    (s.sampleBurst t b m).st.kept = s.kept := by
  unfold State.sampleBurst; dsimp only; split <;> simp [Work.trigger, Work.quiet]

@[simp] theorem State.acceptedBurst_kept (s : State) (t : TermId) (b : FrameNo) (m : Response) :
    (s.acceptedBurst t b m).st.kept = s.kept := by
  unfold State.acceptedBurst; dsimp only; split <;> simp [Work.quiet]

@[simp] theorem State.missedTraffic_kept (s : State) (t : TermId) : (s.missedTraffic t).st.kept = s.kept := by
  unfold State.missedTraffic; dsimp only; split <;> simp [Work.trigger, Work.quiet]

@[simp] theorem State.trackReport_kept (s : State) (t : TermId) (b : FrameNo) (o : Option Response) :
    (s.trackReport t b o).st.kept = s.kept := by
  unfold State.trackReport; split <;> [split; skip] <;> simp

@[simp] theorem State.routeReport_kept (s : State) (t : TermId) (b : FrameNo) (o : Option Response) :
    (s.routeReport t b o).st.kept = s.kept := by
  unfold State.routeReport
  split <;> [simp; split; rfl] <;> [rfl; split] <;> [rfl; split] <;> first | rfl | simp

@[simp] theorem State.takeReport_kept (s : State) (terminal : Byte) (b : FrameNo) (o : Option Response) :
    (s.takeReport terminal b o).kept = s.kept := by
  unfold State.takeReport; split <;> [rfl; split] <;> simp

@[simp] theorem State.hear_kept (s : State) (t : TermId) : (s.hear t).st.kept = s.kept := by
  unfold State.hear; split <;> [split; skip; skip; skip] <;> simp [Work.trigger, Work.quiet]

@[simp] theorem State.endOutage_kept (s : State)  : s.endOutage.st.kept = s.kept := by
  unfold State.endOutage; split <;> simp [Work.trigger, Work.quiet]

theorem Work.andThen_kept (w : Work) (f : State → Work) (h : ∀ s, (f s).st.kept = s.kept) :
    (w.andThen f).st.kept = w.st.kept := h w.st

@[simp] theorem State.sweepOutcome_kept (s : State) (p : PollEntry) (o : Option Response) :
    (s.sweepOutcome p o).st.kept = s.kept := by
  unfold State.sweepOutcome
  split <;> [rfl; split] <;> [rfl; split] <;> [rfl; skip]
  simp [Work.andThen]

@[simp] theorem State.engineOutcome_kept (s : State) (p : PollEntry) (e : EngineId) (serial : Serial) (o :
    Option Response) :
    (s.engineOutcome p e serial o).st.kept = s.kept := by
  unfold State.engineOutcome
  split <;> [rfl; split] <;> [rfl; split] <;> first | rfl | simp

@[simp] theorem State.matchOutcome_kept (s : State) (p : PollEntry) (o : Option Response) :
    (s.matchOutcome p o).st.kept = s.kept := by
  unfold State.matchOutcome; split <;> simp

@[simp] theorem State.takeOutcome_kept (s : State) (k : PollTag) (o : Option Response) :
    (s.takeOutcome k o).st.kept = s.kept := by
  unfold State.takeOutcome; split <;> [rfl; simp]

/-! ### Ends of operations -/

@[simp] theorem State.expireBackoff_kept (s : State) (t : TermId) : (s.expireBackoff t).st.kept = s.kept := by
  unfold State.expireBackoff; split <;> simp [Work.trigger, Work.quiet]

@[simp] theorem State.tickIfDue_kept (s : State) (e : EngineId) : (s.tickIfDue e).kept = s.kept := by
  unfold State.tickIfDue; split <;> [rfl; split] <;> [split; rfl] <;> simp

@[simp] theorem State.timeoutIfDue_kept (s : State) (k : PollTag) : (s.timeoutIfDue k).st.kept = s.kept := by
  unfold State.timeoutIfDue; split <;> simp [Work.quiet]

end Sys2Proof.Machine
end

