-- ==== Sys2Proof/Laws/Ops.lean ====
section
/-! SUPPORT. What the shared operations do, said once for each: transitions, profiles, the queue, power commands, grants and
resumes, the evaluation's effect on the records, the request buffer. -/

namespace Sys2Proof.Machine

/-! ### Transitions and profiles -/

/-- The record after a transition (R6, R4). -/
theorem State.transition_term (s : State) (t u : TermId) (a b : TermState) :
    (s.transition t a b).term u =
      if u = t ∧ (s.term t).state = a then
        { s.term t with state := b, backoff := if a = .backoff then 0 else (s.term t).backoff }
      else s.term u := by
  unfold State.transition
  by_cases h : (s.term t).state = a
  · simp only [h, if_true, and_true, State.mark_term, State.setTerm_term]
  · simp only [h, if_false, and_false]

/-- The marks after a transition (R7). -/
theorem State.transition_marked (s : State) (t u : TermId) (a b : TermState) :
    (s.transition t a b).marked u = (s.marked u || decide (u = t ∧ (s.term t).state = a)) := by
  unfold State.transition
  by_cases h : (s.term t).state = a
  · by_cases e : u = t <;> simp [h, e, State.mark_marked]
  · simp [h]

@[simp] theorem State.transition_queue (s : State) (t : TermId) (a b : TermState) :
    (s.transition t a b).queue = s.queue := by unfold State.transition; split <;> rfl

@[simp] theorem State.transition_stack (s : State) (t : TermId) (a b : TermState) :
    (s.transition t a b).stack = s.stack := by unfold State.transition; split <;> rfl

@[simp] theorem State.transition_engines (s : State) (t : TermId) (a b : TermState) :
    (s.transition t a b).engines = s.engines := by unfold State.transition; split <;> rfl

@[simp] theorem State.transition_serial (s : State) (t : TermId) (a b : TermState) :
    (s.transition t a b).serial = s.serial := by unfold State.transition; split <;> rfl

@[simp] theorem State.transition_job (s : State) (t : TermId) (a b : TermState) (e : EngineId) :
    (s.transition t a b).job e = s.job e := by unfold State.job; rw [State.transition_engines]

/-- The record after both profiles are written (R3). -/
theorem State.writeProfiles_term (s : State) (t u : TermId) (up down : Nat) :
    (s.writeProfiles t up down).term u = if u = t then { s.term t with up := up, down := down } else s.term u := by
  unfold State.writeProfiles
  dsimp only
  split <;> simp only [State.mark_term, State.setTerm_term]

/-- A terminal is marked when either profile takes a new value (R7). -/
theorem State.writeProfiles_marked (s : State) (t u : TermId) (up down : Nat) :
    (s.writeProfiles t up down).marked u =
      (s.marked u || decide (u = t ∧ ¬ ((s.term t).up = up ∧ (s.term t).down = down))) := by
  unfold State.writeProfiles
  by_cases h : (s.term t).up = up ∧ (s.term t).down = down
  · simp [h]
  · by_cases e : u = t <;> simp [h, e, State.mark_marked]

@[simp] theorem State.writeProfiles_job (s : State) (t : TermId) (up down : Nat) (e : EngineId) :
    (s.writeProfiles t up down).job e = s.job e := by unfold State.writeProfiles; dsimp only; split <;> rfl

@[simp] theorem State.writeProfiles_queue (s : State) (t : TermId) (up down : Nat) :
    (s.writeProfiles t up down).queue = s.queue := by unfold State.writeProfiles; dsimp only; split <;> rfl

@[simp] theorem State.writeProfiles_stack (s : State) (t : TermId) (up down : Nat) :
    (s.writeProfiles t up down).stack = s.stack := by unfold State.writeProfiles; dsimp only; split <;> rfl

/-! ### The queue -/

theorem State.mem_leaveQueue (s : State) (t u : TermId) : u ∈ (s.leaveQueue t).queue ↔ u ∈ s.queue ∧ u ≠ t := by
  simp

/-- The queue a terminal joins is the old one with it put in at one place (R74). -/
theorem State.joinEnd_queue (s : State) (t : TermId) :
    (s.joinEnd t).queue =
      s.queue.takeWhile (fun u => (s.term u).group ≤ (s.term t).group) ++
        t :: s.queue.dropWhile (fun u => (s.term u).group ≤ (s.term t).group) := rfl

theorem State.joinEnd_perm (s : State) (t : TermId) : (s.joinEnd t).queue.Perm (t :: s.queue) := by
  rw [State.joinEnd_queue]
  exact List.perm_middle.trans (by rw [List.takeWhile_append_dropWhile])

theorem State.mem_joinEnd (s : State) (t u : TermId) : u ∈ (s.joinEnd t).queue ↔ u = t ∨ u ∈ s.queue := by
  rw [(s.joinEnd_perm t).mem_iff, List.mem_cons]

/-- A join (R74): the queue of `joinEnd`; a CLEAR sector becomes DEGRADED with the sector mark (R134). -/
theorem State.join_fields (s : State) (t : TermId) :
    (s.join t).queue = (s.joinEnd t).queue ∧ (s.join t).terms = s.terms ∧ (s.join t).marks = s.marks ∧
    (s.join t).stack = s.stack ∧ (s.join t).engines = s.engines ∧ (s.join t).serial = s.serial ∧
    (s.join t).outbox = s.outbox ∧ (s.join t).polls = s.polls ∧ (s.join t).lossWindow = s.lossWindow ∧
    (s.join t).mode = (if s.mode = .clear then .degraded else s.mode) ∧
    (s.join t).sectorMark = (s.sectorMark || decide (s.mode = .clear)) := by
  unfold State.join State.setMode
  by_cases h : s.mode = .clear <;> simp [h]

/-! ### Power commands -/

@[simp] theorem State.noteCommand_term (s : State) (t u : TermId) (f : FrameNo) :
    (s.noteCommand t f).term u = s.term u := by
  unfold State.noteCommand; split <;> [rfl; split] <;> [rfl; split] <;> rfl

@[simp] theorem State.noteCommand_marks (s : State) (t : TermId) (f : FrameNo) :
    (s.noteCommand t f).marks = s.marks := by
  unfold State.noteCommand; split <;> [rfl; split] <;> [rfl; split] <;> rfl

@[simp] theorem State.noteCommand_queue (s : State) (t : TermId) (f : FrameNo) :
    (s.noteCommand t f).queue = s.queue := by
  unfold State.noteCommand; split <;> [rfl; split] <;> [rfl; split] <;> rfl

@[simp] theorem State.noteCommand_stack (s : State) (t : TermId) (f : FrameNo) :
    (s.noteCommand t f).stack = s.stack := by
  unfold State.noteCommand; split <;> [rfl; split] <;> [rfl; split] <;> rfl

/-- Whether a tracking or ramp request issues a command (R58). -/
def TermRec.grants (r : TermRec) (v : Nat) : Prop := r.pendingCmd = none ∧ r.issueValue v ≠ r.pc

/-- A granted request (R56, R58): the record, and the POWER. -/
theorem State.requestPower_granted (s : State) (t : TermId) (v : Nat)
    (h : ((s.term t).completed s.lastFrame).grants v) :
    (s.requestPower t v).term t =
        ((s.term t).completed s.lastFrame).issued (((s.term t).completed s.lastFrame).issueValue v) s.effectFrame ∧
    (∀ u, u ≠ t → (s.requestPower t v).term u = s.term u) ∧
    (s.requestPower t v).outbox =
        s.outbox ++ [.power t (((s.term t).completed s.lastFrame).issueValue v) s.effectFrame] := by
  obtain ⟨h1, h2⟩ := h
  have ht : (s.complete t).term t = (s.term t).completed s.lastFrame := by rw [State.complete_term]; simp
  have hf : (s.complete t).effectFrame = s.effectFrame := rfl
  unfold State.requestPower
  simp only [ht, hf, h1, Option.isSome_none, h2, if_false, Bool.false_eq_true]
  refine ⟨by simp, ?_, ?_⟩
  · intro u hu
    simp [State.setTerm_term, State.complete_term, hu]
  · exact arbKept_outbox (State.noteCommand_arbKept _ _ _)

/-- A request that is refused or asks for Pc (R58): nothing but the completion of R57. -/
theorem State.requestPower_refused (s : State) (t : TermId) (v : Nat)
    (h : ¬ ((s.term t).completed s.lastFrame).grants v) : s.requestPower t v = s.complete t := by
  have ht : (s.complete t).term t = (s.term t).completed s.lastFrame := by rw [State.complete_term]; simp
  unfold State.requestPower
  simp only [ht]
  split
  · rfl
  · split
    · rfl
    · rename_i h1 h2
      exact absurd ⟨by simpa using h1, h2⟩ h

/-- The Pmax clamp (R60): the superseding command and its POWER. -/
theorem State.clampPower_spec (s : State) (t : TermId) :
    (s.clampPower t).term t =
        ((s.term t).completed s.lastFrame).superseded
          (((s.term t).completed s.lastFrame).issueValue ((s.term t).completed s.lastFrame).pmax) s.effectFrame ∧
    (∀ u, u ≠ t → (s.clampPower t).term u = s.term u) ∧
    (s.clampPower t).outbox = s.outbox ++
      [.power t (((s.term t).completed s.lastFrame).issueValue ((s.term t).completed s.lastFrame).pmax) s.effectFrame] ∧
    (s.clampPower t).queue = s.queue ∧ (s.clampPower t).stack = s.stack ∧ (s.clampPower t).marks = s.marks := by
  have ht : (s.complete t).term t = (s.term t).completed s.lastFrame := by rw [State.complete_term]; simp
  have hf : (s.complete t).effectFrame = s.effectFrame := rfl
  unfold State.clampPower
  simp only [ht, hf]
  refine ⟨by simp, ?_, ?_, by simp, by simp, by simp⟩
  · intro u hu
    simp [State.setTerm_term, State.complete_term, hu]
  · exact arbKept_outbox (State.noteCommand_arbKept _ _ _)

/-- An engine's ADMIT (R56, R59): the superseding command, both profiles 0, and the message. -/
theorem State.admitTerm_spec (s : State) (t : TermId) (v : Nat) :
    (s.admitTerm t v).term t =
        { ((s.term t).completed s.lastFrame).superseded (((s.term t).completed s.lastFrame).issueValue v) s.effectFrame
          with up := 0, down := 0 } ∧
    (∀ u, u ≠ t → (s.admitTerm t v).term u = s.term u) ∧
    (s.admitTerm t v).outbox =
      s.outbox ++ [.admission t (((s.term t).completed s.lastFrame).issueValue v) s.effectFrame 0 0] ∧
    (∀ e, (s.admitTerm t v).job e = s.job e) := by
  have ht : (s.complete t).term t = (s.term t).completed s.lastFrame := by rw [State.complete_term]; simp
  have hf : (s.complete t).effectFrame = s.effectFrame := rfl
  unfold State.admitTerm
  simp only [ht, hf]
  refine ⟨by simp [State.writeProfiles_term], ?_, ?_, by simp⟩
  · intro u hu
    simp [State.writeProfiles_term, State.setTerm_term, State.complete_term, hu]
  · rw [State.send_outbox, arbKept_outbox (State.writeProfiles_arbKept _ _ _ _)]; rfl

/-! ### Grants, resumes, the evaluation -/

/-- A record without its place: the state and the heard flag taken out. The arbiter writes nothing else of a record. -/
def TermRec.core (r : TermRec) : TermRec := { r with state := .unused, heard := false }

theorem TermRec.core_eq {r r' : TermRec} (h : r'.core = r.core) : r' = { r with state := r'.state, heard := r'.heard } := by
  cases r; cases r'; simp only [TermRec.core, TermRec.mk.injEq] at h ⊢
  simp_all

/-- A grant (R82): the head leaves the queue, and the engine holds a COARSE job with the next serial. -/
theorem State.grant_fields (s : State) (e : EngineId) (t : TermId) :
    (s.grant e t).queue = s.queue.filter (· ≠ t) ∧ (s.grant e t).stack = s.stack ∧
    (s.grant e t).serial = s.serial + 1 ∧ ((s.grant e t).job e).isSome = true ∧
    (∀ f, f ≠ e → (s.grant e t).job f = s.job f) ∧ (∀ u, ((s.grant e t).term u).core = (s.term u).core) := by
  unfold State.grant
  refine ⟨by simp, by simp, by simp, by simp, ?_, ?_⟩
  · intro f hf
    simp [State.setJob_job, hf]
  · intro u
    by_cases hu : u = t
    · subst hu
      by_cases hs : (s.term u).state = .queued <;>
        simp [State.transition_term, TermRec.core, hs]
    · simp [State.transition_term, State.setTerm_term, hu]

/-- A resume (R83): the stack top leaves the stack, and the engine holds its job with the next serial. -/
theorem State.resume_fields (s : State) (e : EngineId) (c : Context) (below : List Context) :
    (s.resume e c below).queue = s.queue ∧ (s.resume e c below).stack = below ∧
    (s.resume e c below).serial = s.serial + 1 ∧ ((s.resume e c below).job e).isSome = true ∧
    (∀ f, f ≠ e → (s.resume e c below).job f = s.job f) ∧
    (∀ u, ((s.resume e c below).term u).core = (s.term u).core) := by
  unfold State.resume
  refine ⟨by simp, by simp, by simp, by simp, ?_, ?_⟩
  · intro f hf
    simp [State.setJob_job, hf]
  · intro u
    by_cases hu : u = c.term
    · subst hu
      by_cases hs : (s.term c.term).state = .suspended <;>
        simp [State.transition_term, TermRec.core, hs]
    · simp [State.transition_term, hu]

theorem State.fillEngine_core (s : State) (e : EngineId) (u : TermId) :
    ((s.fillEngine e).term u).core = (s.term u).core := by
  unfold State.fillEngine
  split
  · rfl
  · split
    · rfl
    · exact (s.grant_fields e _).2.2.2.2.2 u
    · exact (s.resume_fields e _ _).2.2.2.2.2 u
    · split
      · exact (s.grant_fields e _).2.2.2.2.2 u
      · exact (s.resume_fields e _ _).2.2.2.2.2 u

theorem State.fill_core (s : State) (u : TermId) : (s.fill.term u).core = (s.term u).core := by
  simp only [State.fill, allEngines, List.foldl_cons, List.foldl_nil, State.fillEngine_core]

theorem State.preempt_core (s : State) (e : EngineId) (j : Job) (t u : TermId) :
    ((s.preempt e j t).term u).core = (s.term u).core := by
  unfold State.preempt
  rw [(State.grant_fields _ e t).2.2.2.2.2 u]
  by_cases hu : u = j.term
  · subst hu
    by_cases hs : (s.term j.term).state = .active <;> simp [State.transition_term, TermRec.core, hs]
  · simp [State.transition_term, hu]

theorem preemptLoop_core (n : Nat) (s : State) (u : TermId) : ((preemptLoop n s).term u).core = (s.term u).core := by
  induction n generalizing s with
  | zero => rfl
  | succ n ih =>
    unfold preemptLoop
    split
    · rfl
    · split
      · rw [ih, State.preempt_core]
      · rfl

/-- The evaluation writes no field of a record but its state and its heard flag (R82, R83, R86). -/
theorem State.evaluate_core (s : State) (u : TermId) : (s.evaluate.term u).core = (s.term u).core := by
  unfold State.evaluate
  split
  · rfl
  · rw [preemptLoop_core, State.fill_core]

theorem Work.close_core (w : Work) (u : TermId) : (w.close.term u).core = (w.st.term u).core := by
  unfold Work.close
  split
  · exact w.st.evaluate_core u
  · rfl

/-- Under HOLD and in OUTAGE the evaluation is skipped (R80). -/
theorem State.evaluate_skipped (s : State) (h : s.hold = true ∨ s.mode = .outage) : s.evaluate = s := by
  unfold State.evaluate
  rcases h with h | h <;> simp [h]

/-- An event in which no trigger occurs only re-examines the flag (R80, R89). -/
theorem Work.close_quiet (s : State) : (Work.quiet s).close = s.reexamine := rfl

/-! ### Orders by rank -/

section Ranked

variable {α : Type} (rank : α → Nat)

theorem insertRanked_perm (x : α) (l : List α) : (insertRanked rank x l).Perm (x :: l) := by
  induction l with
  | nil => exact .refl _
  | cons y l ih =>
    unfold insertRanked
    split
    · exact .refl _
    · exact (ih.cons y).trans (.swap x y l)

/-- A list in the order of its ranks holds what it held. -/
theorem sortRanked_perm (l : List α) : (sortRanked rank l).Perm l := by
  induction l with
  | nil => exact .refl _
  | cons x l ih => exact (insertRanked_perm rank x _).trans (ih.cons x)

theorem sublist_insertRanked (x : α) (l : List α) : l.Sublist (insertRanked rank x l) := by
  induction l with
  | nil => simp
  | cons y l ih =>
    unfold insertRanked
    split
    · exact List.sublist_cons_self _ _
    · exact ih.cons_cons y

theorem cons_sublist_insertRanked {x : α} {k l : List α} (h : k.Sublist l) (hx : ∀ y ∈ k, rank x ≤ rank y) :
    (x :: k).Sublist (insertRanked rank x l) := by
  induction h with
  | slnil => simp [insertRanked]
  | @cons k l y _ ih =>
    unfold insertRanked
    split
    · exact (List.Sublist.cons y ‹_›).cons_cons x
    · exact (ih hx).cons y
  | @cons_cons k l y h _ =>
    unfold insertRanked
    rw [if_pos (hx y (by simp))]
    exact (h.cons_cons y).cons_cons x

/-- A part of a list whose ranks rise keeps its order when the list is put in the order of its ranks. -/
theorem sublist_sortRanked {k l : List α} (h : k.Sublist l) (hk : k.Pairwise (fun x y => rank x ≤ rank y)) :
    k.Sublist (sortRanked rank l) := by
  induction h with
  | slnil => exact .slnil
  | @cons k l y _ ih => exact (ih hk).trans (sublist_insertRanked rank y _)
  | @cons_cons k l y _ ih =>
    obtain ⟨h1, h2⟩ := List.pairwise_cons.mp hk
    exact cons_sublist_insertRanked rank (ih h2) h1

theorem climbing_snd (m : Nat) (l : List α) : (climbing rank m l).map Prod.snd = l := by
  induction l generalizing m with
  | nil => rfl
  | cons x l ih => simp [climbing, ih]

theorem climbing_le (m : Nat) (l : List α) : ∀ p ∈ climbing rank m l, m ≤ p.1 := by
  induction l generalizing m with
  | nil => nofun
  | cons x l ih =>
    intro p hp
    rcases List.mem_cons.mp hp with rfl | hp
    · exact Nat.le_max_left _ _
    · exact le_trans (Nat.le_max_left _ _) (ih _ p hp)

theorem climbing_pairwise (m : Nat) (l : List α) : (climbing rank m l).Pairwise (fun p q => p.1 ≤ q.1) := by
  induction l generalizing m with
  | nil => exact .nil
  | cons x l ih => exact List.pairwise_cons.mpr ⟨fun p hp => climbing_le rank _ l p hp, ih _⟩

/-- A merge holds the messages of both lists. -/
theorem mergeRanked_perm (kept free : List α) : (mergeRanked rank kept free).Perm (kept ++ free) := by
  unfold mergeRanked
  refine ((sortRanked_perm Prod.fst _).map Prod.snd).trans ?_
  simp [climbing_snd, Function.comp_def]

/-- A merge keeps the order of its first list. -/
theorem mergeRanked_kept (kept free : List α) : kept.Sublist (mergeRanked rank kept free) := by
  have h := (sublist_sortRanked Prod.fst (List.sublist_append_left (climbing rank 0 kept)
    (free.map (fun x => (rank x, x)))) (climbing_pairwise rank 0 kept)).map Prod.snd
  rwa [climbing_snd] at h

end Ranked

/-- The messages of a mark's work before its POLLs (R149, R153): what was waiting stays in front, the ramp ticks' messages
keep their order, and nothing is lost. -/
theorem State.freeSendOrder_outbox (s : State) (n m : Nat) (h : n ≤ m) :
    ∃ sent, (s.freeSendOrder n m).outbox = s.outbox.take n ++ sent ∧ sent.Perm (s.outbox.drop n) ∧
      ((s.outbox.take m).drop n).Sublist sent := by
  refine ⟨_, rfl, (mergeRanked_perm _ _ _).trans (.of_eq ?_), mergeRanked_kept _ _ _⟩
  conv_rhs => rw [← List.take_append_drop m s.outbox]
  rw [List.drop_append]
  by_cases hm : m ≤ s.outbox.length
  · simp [Nat.min_eq_left hm, Nat.sub_eq_zero_of_le h]
  · simp [List.drop_eq_nil_of_le (Nat.le_of_not_le hm)]

/-! ### The request buffer -/

/-- A request while the buffer is occupied is discarded (R156). -/
theorem State.takeRequest_occupied (s : State) (k : ReqKind) (tag : Byte) (body : List Byte) (h : s.reqBuf.isSome = true) :
    s.takeRequest k tag body = s.cpHunt := by
  simp [State.takeRequest, State.enterBuffer, h, State.cpHunt]

/-- A request of the right length in an empty buffer is carried out and answered (R158, R159). -/
theorem State.takeRequest_carried (s : State) (k : ReqKind) (tag : Byte) (body : List Byte) (h : s.reqBuf = none)
    (hl : body.length = k.bodyLen) :
    s.takeRequest k tag body =
      (carry k body { s with cpRx := .hunting, reqBuf := some ⟨⟨k.code, tag, body⟩, true⟩ }).st.answer
        ⟨tag, k.code, (carry k body { s with cpRx := .hunting, reqBuf := some ⟨⟨k.code, tag, body⟩, true⟩ }).status,
          (carry k body { s with cpRx := .hunting, reqBuf := some ⟨⟨k.code, tag, body⟩, true⟩ }).contents⟩ := by
  simp [State.takeRequest, State.enterBuffer, h, hl]

/-! ### The control port's lines -/

set_option maxRecDepth 4000 in
/-- A byte sent is the byte taken (R171). -/
theorem byteOfLine_lineBits : ∀ b : Byte, byteOfLine (lineBits b) = b := by decide

/-- A byte whose stop bit is low is taken as a byte all the same (R171). -/
theorem byteOfLine_stop (bits : List Bool) (stop : Bool) (h : bits.length = 9) :
    byteOfLine (bits ++ [stop]) = byteOfLine bits := by
  have ht : bits.tail.take 8 = bits.tail := List.take_of_length_le (by simp [h])
  simp [byteOfLine, List.drop_append, h, ht]

/-! ### Clamps -/

theorem clampNat_eq (lo hi x : Nat) (h : lo ≤ hi) : clampNat lo hi x = max lo (min x hi) := by
  unfold clampNat; split <;> [omega; split] <;> omega

theorem clampInt_eq (lo hi x : Int) (h : lo ≤ hi) : clampInt lo hi x = max lo (min x hi) := by
  unfold clampInt; split <;> [omega; split] <;> omega

end Sys2Proof.Machine
end

