-- ==== Sys2Proof/Laws/Search.lean ====
section
/-! SUPPORT. What the search, the polls and the loss procedure do, said once for each shared operation. -/

namespace Sys2Proof.Machine

/-! ### Gates -/

/-- A search gate begins (R95): only the poll power and the gate change, and the power is brought down to Pmax. -/
theorem Job.beginGate_eq (j : Job) (r : TermRec) :
    j.beginGate r =
      { j with
        pollPower := min j.pollPower r.pmax
        gate := some ⟨if j.phase = .coarse then 1 else r.depth, min j.pollPower r.pmax, none, 0, 0, 0, 0⟩ } := by
  have h : (if r.pmax < j.pollPower then r.pmax else j.pollPower) = min j.pollPower r.pmax := by split <;> omega
  simp only [Job.beginGate, Gate.begun, h]

/-- The outcome of a judged gate (R31). -/
theorem Gate.verdict_cases (g : Gate) (errLimit : Nat) :
    (g.verdict errLimit = .silent ∧ g.responses = 0) ∨
    (g.verdict errLimit = .accepted ∧ 1 ≤ g.responses ∧ g.errorTotal ≤ g.depth * errLimit) ∨
    (g.verdict errLimit = .heard ∧ 1 ≤ g.responses ∧ g.depth * errLimit < g.errorTotal) := by
  unfold Gate.verdict
  split
  · simp_all
  · split <;> simp_all <;> omega

/-- A count leaves the depth, the power and the count-from frame (R29, R30). -/
theorem Gate.count_fields (g : Gate) (o : Option Response) :
    (g.count o).depth = g.depth ∧ (g.count o).power = g.power ∧ (g.count o).countFrom = g.countFrom ∧
    (g.count o).counted = g.counted + 1 := by
  cases o <;> exact ⟨rfl, rfl, rfl, rfl⟩

/-! ### Exhaustion -/

/-- Exhaustion of a job whose terminal is ACTIVE (R101, R102). -/
theorem State.exhaust_spec (s : State) (e : EngineId) (j : Job) (h : (s.term j.term).state = .active) :
    (s.exhaust e j).term j.term =
      (if min ((s.term j.term).retries + 1) 15 ≤ s.params.retryLimit then
        { s.term j.term with
          state := .backoff
          retries := min ((s.term j.term).retries + 1) 15
          backoff := backoffFrames s.params.backoffBase (min ((s.term j.term).retries + 1) 15) }
       else
        { s.term j.term with state := .held, retries := min ((s.term j.term).retries + 1) 15 }) ∧
    (∀ u, u ≠ j.term → (s.exhaust e j).term u = s.term u) ∧ (s.exhaust e j).job e = none ∧
    (∀ f, f ≠ e → (s.exhaust e j).job f = s.job f) ∧
    (s.exhaust e j).outbox = s.outbox ++ (if j.phase.admitted then [.withdraw j.term] else []) ∧
    (s.exhaust e j).queue = s.queue ∧ (s.exhaust e j).stack = s.stack := by
  unfold State.exhaust
  dsimp only
  generalize min ((s.term j.term).retries + 1) 15 = n
  have hp := fun (v : State) b => kept_params (State.transition_kept v j.term .active b)
  have ho := fun (v : State) b => arbKept_outbox (State.transition_arbKept v j.term .active b)
  cases ha : j.phase.admitted <;> by_cases hr : n ≤ s.params.retryLimit <;>
    simp only [hr, if_true, if_false, Bool.false_eq_true, State.send_params, State.setTerm_params] <;>
    refine ⟨?_, ?_, by simp, ?_, ?_, by simp, by simp⟩ <;>
    first
    | (intro f hf; simp [State.setJob_job, hf]; done)
    | (intro u hu; simp [State.transition_term, State.setTerm_term, hu])
    | simp [State.transition_term, h, hp, ho]

/-! ### Polls -/

/-- A poll issued (R117): one entry, one message, nothing else. -/
theorem State.issuePoll_eq (s : State) (k : PollTag) (t : TermId) (owner : PollOwner) (power slot : Nat) :
    s.issuePoll k t owner power slot =
      { s with
        polls := (s.setPoll k (some ⟨t, owner, power, 8, false⟩)).polls
        outbox := s.outbox ++ [.poll k t slot power] } := rfl

/-- The outcome of a free place is dropped (R122). -/
theorem State.takeOutcome_free (s : State) (k : PollTag) (o : Option Response) (h : s.poll k = none) :
    s.takeOutcome k o = .quiet s := by
  simp [State.takeOutcome, h]

/-- The outcome of a stale entry is dropped and its place freed (R122 to R124). -/
theorem State.takeOutcome_stale (s : State) (k : PollTag) (p : PollEntry) (o : Option Response) (h : s.poll k = some p)
    (hs : p.stale = true) : s.takeOutcome k o = .quiet (s.setPoll k none) := by
  simp only [State.takeOutcome, h, State.matchOutcome, State.engineOutcome, State.sweepOutcome, hs, if_true]
  split <;> rfl

/-- The sweep's polls are issued one after another, the cursor at the last terminal polled (R121, R127). -/
theorem State.pollSweep_kept_records (n slot : Nat) (s : State) :
    (s.pollSweep slot n).terms = s.terms ∧ (s.pollSweep slot n).engines = s.engines ∧
    (s.pollSweep slot n).queue = s.queue ∧ (s.pollSweep slot n).stack = s.stack ∧
    (s.pollSweep slot n).mode = s.mode ∧ (s.pollSweep slot n).marks = s.marks := by
  induction n generalizing s slot with
  | zero => exact ⟨rfl, rfl, rfl, rfl, rfl, rfl⟩
  | succ n ih =>
    unfold State.pollSweep
    split
    · obtain ⟨h1, h2, h3, h4, h5, h6⟩ := ih (slot + 1) _
      exact ⟨h1, h2, h3, h4, h5, h6⟩
    · exact ⟨rfl, rfl, rfl, rfl, rfl, rfl⟩

/-- The engines' polls write only jobs' poll in flight, the poll table and the outbound list (R117, R120). -/
theorem State.pollEngines_kept_records (es : List EngineId) (slot : Nat) (s : State) :
    (s.pollEngines slot es).terms = s.terms ∧ (s.pollEngines slot es).queue = s.queue ∧
    (s.pollEngines slot es).stack = s.stack ∧ (s.pollEngines slot es).mode = s.mode ∧
    (s.pollEngines slot es).marks = s.marks ∧ (s.pollEngines slot es).cursor = s.cursor := by
  induction es generalizing s slot with
  | nil => exact ⟨rfl, rfl, rfl, rfl, rfl, rfl⟩
  | cons e es ih =>
    have hp : ∀ v : State, v = s.pollEngine e slot → v.terms = s.terms ∧ v.queue = s.queue ∧ v.stack = s.stack ∧
        v.mode = s.mode ∧ v.marks = s.marks ∧ v.cursor = s.cursor := by
      rintro v rfl
      unfold State.pollEngine
      split <;> exact ⟨rfl, rfl, rfl, rfl, rfl, rfl⟩
    obtain ⟨p1, p2, p3, p4, p5, p6⟩ := hp _ rfl
    obtain ⟨h1, h2, h3, h4, h5, h6⟩ := ih (slot + 1) (s.pollEngine e slot)
    exact ⟨h1.trans p1, h2.trans p2, h3.trans p3, h4.trans p4, h5.trans p5, h6.trans p6⟩

/-! ### Loss -/

/-- The record of a lost SERVING terminal with reason FORCED, and what the loss leaves (R67, R70). -/
theorem State.lose_forced (s : State) (t : TermId) (h : (s.term t).state = .serving) :
    (s.lose t .forced).term t =
      { ((s.term t).completed s.lastFrame).lost .forced s.lastFrame with state := .queued } ∧
    (∀ u, u ≠ t → (s.lose t .forced).term u = s.term u) ∧
    (s.lose t .forced).outbox = s.outbox ++ [.withdraw t] ∧ (s.lose t .forced).lossWindow = s.lossWindow := by
  have hc : ((s.complete t).term t) = (s.term t).completed s.lastFrame := by rw [State.complete_term]; simp
  have hst : ((s.term t).completed s.lastFrame).state = .serving := by
    unfold TermRec.completed TermRec.effective; split <;> [split; skip] <;> exact h
  unfold State.lose
  simp only [if_true]
  obtain ⟨-, hterms, -, -, -, -, hout, -, hwin, -, -⟩ := State.join_fields
    (((((s.complete t).send (.withdraw t)).setTerm t
      ((((s.complete t).send (.withdraw t)).term t).lost .forced ((s.complete t).send (.withdraw t)).lastFrame)).transition t
      .serving .queued)) t
  have hterm : ∀ u (v w : State), v.terms = w.terms → v.term u = w.term u := fun u v w hvw => by
    unfold State.term; rw [hvw]
  refine ⟨?_, ?_, ?_, ?_⟩
  · rw [hterm t _ _ hterms, State.transition_term]
    simp [TermRec.lost, hc, hst]
  · intro u hu
    rw [hterm u _ _ hterms, State.transition_term]
    simp [State.setTerm_term, State.complete_term, hu]
  · rw [hout, arbKept_outbox (State.transition_arbKept _ _ _ _)]
    simp
  · rw [hwin, arbKept_lossWindow (State.transition_arbKept _ _ _ _)]
    simp

end Sys2Proof.Machine
end

