-- ==== Sys2Proof/Laws/Over.lean ====
section
/-! SUPPORT. The arbiter reads and writes its own fields only: its work on a state whose other fields are taken from
elsewhere is its work on that state, with those fields put back. -/

namespace Sys2Proof.Machine

/-- The fields the arbiter reads or writes from `s`, every other field from `o`. -/
def State.over (s o : State) : State :=
  { o with
    params := s.params, marks := s.marks, terms := s.terms, queue := s.queue, stack := s.stack, serial := s.serial
    hold := s.hold, engines := s.engines, mode := s.mode }

theorem State.transition_over (s o : State) (t : TermId) (a b : TermState) :
    (s.over o).transition t a b = (s.transition t a b).over o := by
  unfold State.transition
  have h : (s.over o).term t = s.term t := rfl
  rw [h]
  split <;> rfl

theorem State.transition_params (s : State) (t : TermId) (a b : TermState) :
    (s.transition t a b).params = s.params := kept_params (State.transition_kept ..)

theorem State.grant_over (s o : State) (e : EngineId) (t : TermId) : (s.over o).grant e t = (s.grant e t).over o := by
  unfold State.grant
  have h : ((s.over o).leaveQueue t).transition t .queued .active
      = ((s.leaveQueue t).transition t .queued .active).over o := State.transition_over (s.leaveQueue t) o t _ _
  rw [h]
  rfl

theorem State.resume_over (s o : State) (e : EngineId) (c : Context) (k : List Context) :
    (s.over o).resume e c k = (s.resume e c k).over o := by
  unfold State.resume
  have h : ((s.over o).setStack k).transition c.term .suspended .active
      = ((s.setStack k).transition c.term .suspended .active).over o := State.transition_over (s.setStack k) o _ _ _
  rw [h]
  rfl

theorem State.fillEngine_over (s o : State) (e : EngineId) : (s.over o).fillEngine e = (s.fillEngine e).over o := by
  unfold State.fillEngine
  have h1 : (s.over o).job e = s.job e := rfl
  have h2 : (s.over o).stack = s.stack := rfl
  have h3 : (s.over o).queue = s.queue := rfl
  have h4 : ∀ t, (s.over o).term t = s.term t := fun _ => rfl
  rw [h1, h2, h3]
  split
  · rfl
  · split
    · rfl
    · exact s.grant_over o e _
    · exact s.resume_over o e _ _
    · rw [h4]
      split
      · exact s.grant_over o e _
      · exact s.resume_over o e _ _

theorem State.fill_over (s o : State) : (s.over o).fill = s.fill.over o := by
  simp only [State.fill, allEngines, List.foldl_cons, List.foldl_nil, State.fillEngine_over]

theorem State.preemptWanted_over (s o : State) : (s.over o).preemptWanted = s.preemptWanted := rfl

theorem State.preempt_over (s o : State) (e : EngineId) (j : Job) (t : TermId) :
    (s.over o).preempt e j t = (s.preempt e j t).over o := by
  unfold State.preempt
  have h : ((s.over o).setStack (j.context :: (s.over o).stack)).transition j.term .active .suspended
      = ((s.setStack (j.context :: s.stack)).transition j.term .active .suspended).over o :=
    State.transition_over (s.setStack (j.context :: s.stack)) o _ _ _
  rw [h]
  exact State.grant_over _ o e t

theorem preemptLoop_over (n : Nat) (s o : State) : preemptLoop n (s.over o) = (preemptLoop n s).over o := by
  induction n generalizing s with
  | zero => rfl
  | succ n ih =>
    unfold preemptLoop
    have h : (s.over o).stack = s.stack := rfl
    rw [State.preemptWanted_over, h]
    split
    · rfl
    · split
      · rw [State.preempt_over, ih]
      · rfl

/-- The evaluation of a state is that of its arbiter part (R80). -/
theorem State.evaluate_over (s o : State) : (s.over o).evaluate = s.evaluate.over o := by
  unfold State.evaluate
  have h1 : (s.over o).hold = s.hold := rfl
  have h2 : (s.over o).mode = s.mode := rfl
  rw [h1, h2]
  split
  · rfl
  · rw [State.fill_over, preemptLoop_over]

/-- Two states with the same arbiter part close alike: each field the arbiter writes is the same. -/
theorem Work.close_over (s o : State) (due : Bool) :
    (⟨s.over o, due⟩ : Work).close = { (⟨s, due⟩ : Work).close.over o with
      preemptPending := (⟨s, due⟩ : Work).close.preemptPending } := by
  cases due
  · rfl
  · show (s.over o).evaluate.reexamine = _
    rw [State.evaluate_over]
    rfl

end Sys2Proof.Machine
end

