-- ==== Sys2Proof/WellFormed.lean ====
section
/-! DEFINITION. Which commands are well formed: the operands can stand for the event the row names. A command that is
not well formed still has a meaning: the receivers do with its bytes what R144, R156 and R159 say. -/

namespace Sys2Proof

/-- A body a frame can carry: 0 to 250 bytes (R144). -/
def bodyFits (body : List Byte) : Bool := body.length ≤ 250

/-- The check of each command's operands. -/
def Instr.wf : Instr → Bool
  | .cpLengthDiscard b | .mlLengthDiscard b => !Machine.lenValid b
  | .frameDiscardedBufferOccupied _ _ body _ => bodyFits body
  | .badFrame _ _ body => bodyFits body
  | .badKind kind _ body => bodyFits body && (Machine.reqKindOf kind).isNone
  | .mlFrameDropped kind tag body => bodyFits body && !Machine.modemFrameKnown ⟨kind, tag, body⟩
  | .status _ body | .setSector _ body | .readSector _ body | .setLadder _ body
  | .provision _ body | .amend _ body | .retire _ body | .bar _ body | .unbar _ body
  | .restoreNow _ body | .readTerminal _ body | .hold _ body | .release _ body
  | .readChanges _ body | .readQueue _ body | .restart _ body => bodyFits body
  | .mlSyncFound bytes | .cpSyncFound bytes => !bytes.isEmpty
  | .powerOn | .cpGapDiscard | .replySent | .restartReset | .mlGapDiscard | .mlCrcDiscard
  | .frame _ _ | .burst _ _ _ _ | .miss _ _ | .pollResult _ _ _ _ | .modemSilent
  | .commandEffective _ | .ambiguityWindowClose _ | .backoffExpiry _ | .rampTick _
  | .pollTimeout _ | .lossWindowExpiry | .outboundMessageSent => true

end Sys2Proof
end

