-- ==== Sys2Proof/Tests/Slice0.lean ====
section
/-! SUPPORT. The model's own tests: ill-formed commands the check refuses, single steps of the manual's worked cases, and for
every statement with hypotheses a state and operands that meet them. -/

namespace Sys2Proof.Tests

open Sys2Proof Sys2Proof.Machine

set_option maxRecDepth 20000

/-! ### Helpers -/

/-- The state a command leads to. -/
def after (c : Instr) (s : State) : State :=
  match exec c s with
  | .next t => t
  | _ => s

/-- A provisioned record: reference level -260, Su 110, Sd 120, Pmax 60, start power 10, depth 2, Pc and Pe 10. -/
def rec0 : TermRec :=
  { TermRec.powerOn with
    refLevel := -260, su := 110, sd := 120, pmax := 60, startPower := 10, depth := 2, pc := 10, pe := 10 }

/-- Terminal 1 in a state that no collection holds, in a sector of the mode that state asks for. -/
def one (r : TermRec) : State :=
  { State.reset.setTerm 0 r with mode := if r.state.waiting then .degraded else .clear }

/-- Terminal 1 QUEUED, alone in the queue. -/
def waiting (r : TermRec) : State := (one { r with state := .queued }).setQueue [0]

/-- A job of terminal 1 with serial 1. -/
def job0 (ph : Phase) (power : Nat) (g : Option Gate) : Job := { Job.fresh 0 0 1 ph power 0 0 with gate := g }

/-- Terminal 1 ACTIVE on engine 0 with a job. -/
def working (r : TermRec) (j : Job) : State :=
  { (one { r with state := .active }).setJob 0 (some j) with serial := 1 }

/-- A search job of terminal 1 waiting for the poll of tag 2. -/
def polled (r : TermRec) (j : Job) : State :=
  (working r { j with pollInFlight := some 2 }).setPoll 2 (some ⟨0, .engine 0 1, j.pollPower, 8, false⟩)

theorem of_none {α : Type} {x : Option α} {P : α → Prop} (h : x = none) : ∀ a, x = some a → P a := by
  subst h; nofun

theorem of_some {α : Type} {x : Option α} {P : α → Prop} (y : α) (h : x = some y) (p : P y) : ∀ a, x = some a → P a := by
  subst h; rintro _ ⟨⟩; exact p

/-! ### Well-formedness: an ill-formed command for each check -/

theorem test_wf_cp_length : (Instr.cpLengthDiscard 2).wf = false ∧ (Instr.cpLengthDiscard 253).wf = true := by decide
theorem test_wf_ml_length : (Instr.mlLengthDiscard 252).wf = false ∧ (Instr.mlLengthDiscard 1).wf = true := by decide
theorem test_wf_occupied_body :
    (Instr.frameDiscardedBufferOccupied 0 0 (List.replicate 251 0) true).wf = false := by decide
theorem test_wf_bad_frame_body : (Instr.badFrame 0 0 (List.replicate 251 0)).wf = false := by decide
theorem test_wf_bad_kind_body : (Instr.badKind 0 0 (List.replicate 251 0)).wf = false := by decide
theorem test_wf_bad_kind_known : (Instr.badKind 0x4F 0 []).wf = false ∧ (Instr.badKind 0x50 0 []).wf = true := by decide
theorem test_wf_request_body : (Instr.amend 0 (List.replicate 251 0)).wf = false := by decide
theorem test_wf_known_dropped :
    (Instr.mlFrameDropped 0x12 0 [1, 2, 3]).wf = false ∧ (Instr.mlFrameDropped 0x12 0 [1, 2]).wf = true := by decide
theorem test_wf_dropped_body : (Instr.mlFrameDropped 0 0 (List.replicate 251 0)).wf = false := by decide
theorem test_wf_no_bytes : (Instr.cpSyncFound []).wf = false ∧ (Instr.mlSyncFound []).wf = false := by decide

/-! ### Single steps of the manual's worked cases -/

/-- 01 §1.5: PROVISION of terminal 12 on frame 1200 clamps, sends ADMIT with effect frame 1203 and leaves the sector CLEAR. -/
theorem test_provision_serving :
    let s := after (.provision 7 [12, 2, 0xFE, 0xD4, 100, 110, 50, 70, 0, 9, 3, 1]) { State.reset with lastFrame := 1200 }
    s.outbox = [.admission 11 50 1203 7 3] ∧ (s.term 11).state = .serving ∧ (s.term 11).depth = 1 ∧
      (s.term 11).holdOff = 500 ∧ s.mode = .clear ∧ s.chg = true := by decide

/-- 10 R165, R171: the first mark in an empty map asserts CHG and drives its pin low; READ CHANGES deasserts it before its
reply has left. -/
theorem test_chg_line :
    (State.reset.mark 40).chg = true ∧ (State.reset.mark 40).chgPin = false ∧
    (after (.readChanges 1 []) (State.reset.mark 40)).chgPin = true := by decide

/-- 01 §1.5: AMEND to Pmax 40 on frame 1210 supersedes Pc 50 with 40 from frame 1213. -/
theorem test_amend_clamps :
    let s := after (.amend 7 [1, 0, 0xFE, 0xD4, 100, 110, 40, 50, 1])
      { one { rec0 with state := .serving, pmax := 50, pc := 50, pe := 50 } with lastFrame := 1210 }
    (s.term 0).pc = 40 ∧ (s.term 0).pe = 50 ∧ (s.term 0).pendingCmd = some ⟨40, 1213⟩ ∧
      (s.term 0).ambigUntil = none ∧ s.outbox = [.power 0 40 1213] := by decide

/-- 01 §1.5: BAR of a SERVING terminal withdraws it. -/
theorem test_bar_withdraws :
    let s := after (.bar 7 [1]) (one { rec0 with state := .serving })
    (s.term 0).state = .barred ∧ s.outbox = [.withdraw 0] ∧ s.mode = .clear := by decide

/-- The terminal of 02 §2.4: Pe 6, pending (8, 4102), F 40, profiles 4 and 5, k = 24. -/
def s24 : State :=
  { one { rec0 with state := .serving, pc := 8, pe := 6, pendingCmd := some ⟨8, 4102⟩, fade := 40, up := 4, down := 5,
                    holdOff := 400 } with
    lastFrame := 4100, params := { SectorParams.defaults with ratio := 24 } }

/-- 02 §2.4 and 03 §3.9: a BURST of frame 4102 was sent at 8, one of frame 4101 at 6. -/
theorem test_burst_power_and_smoothing :
    ((after (.burst 1 4102 (BitVec.ofInt 16 (-312)) 3) s24).term 0).fade = 50 ∧
      (after (.burst 1 4102 (BitVec.ofInt 16 (-312)) 3) s24).outbox = [.profile 0 3 1] ∧
      ((after (.burst 1 4101 (BitVec.ofInt 16 (-312)) 3) s24).term 0).fade = 49 := by decide

/-- The terminal of 04 §4.4: Pc 20, F 30. -/
def s44 : State :=
  { one { rec0 with state := .serving, refLevel := -270, pmax := 30, pc := 20, pe := 20, fade := 30, su := 200, sd := 200 }
    with lastFrame := 3000 }

/-- 04 §4.4: the tracking move from 20 to 18, with the effect frame 3003. -/
theorem test_tracking_move :
    let s := after (.burst 1 2999 (BitVec.ofInt 16 (-264)) 0) s44
    (s.term 0).fade = 22 ∧ (s.term 0).pc = 18 ∧ (s.term 0).pendingCmd = some ⟨18, 3003⟩ := by decide

/-- 04 §4.5: the fourth miss loses terminal 14; here under HOLD. -/
theorem test_miss_limit_loses :
    let s := after (.miss 1 7004)
      { one { rec0 with state := .serving, pc := 32, pe := 30, pendingCmd := some ⟨32, 7007⟩, missCount := 3 } with
        lastFrame := 7005, hold := true }
    (s.term 0).state = .queued ∧ (s.term 0).lossPower = some 30 ∧ (s.term 0).lostAt = some 7005 ∧
      (s.term 0).lossReason = some .misses ∧ s.lossWindow = [1000] ∧ s.mode = .degraded := by decide

/-- The job of 06 §6.7 about to be admitted at poll power 10, N = 1. -/
def s67 : State :=
  let s := polled { rec0 with depth := 1 } (job0 .fine 10 (some ⟨1, 10, none, 0, 0, 0, 0⟩))
  { s with lastFrame := 6000, params := { s.params with confirmCount := 1 } }

/-- 06 §6.7: the gate sample 48 sets F, ADMIT goes out, and SETTLE aims at 40 with a countdown of 4. -/
theorem test_admission :
    let s := after (.pollResult 2 1 (BitVec.ofInt 16 (-298)) 0) s67
    s.outbox = [.admission 0 10 6003 0 0] ∧ (s.term 0).fade = 48 ∧ (s.term 0).foundPower = some 10 ∧
      (s.job 0).map Job.ramp = some (some ⟨40, 1, .still, 4⟩) := by decide

/-- A job in SETTLE at Pc 10 with the target 40 and its countdown spent. -/
def settling : State :=
  let s := working { rec0 with fade := 48, foundPower := some 10 }
    { job0 .settle 10 none with
      ramp := some ⟨40, 1, .still, 0⟩, admitFrame := some 6003, cmdFrame := some 6003 }
  { s with lastFrame := 6004 }

/-- 06 §6.7: the first ramp tick moves by 1, and the next step is 2. -/
theorem test_ramp_tick :
    let s := after (.rampTick 0) settling
    s.outbox = [.power 0 11 6007] ∧ (s.job 0).map Job.ramp = some (some ⟨40, 2, .up, 4⟩) := by decide

/-- 06 §6.8: a SILENT COARSE gate at power 28 with Cs 8 and Pmax 40 moves to 36. -/
theorem test_coarse_silent :
    let s := after (.pollResult 2 0 0 0) (polled { rec0 with pmax := 40 } (job0 .coarse 28 (some ⟨1, 28, none, 0, 0, 0, 0⟩)))
    (s.job 0).map (fun j => (j.phase, j.pollPower, j.limitCount)) = some (.coarse, 36, 0) := by decide

/-- 07 §7.2: a frame mark with slots polls the engine that needs one, at tag 0 and slot 0, with a countdown of 8. -/
theorem test_frame_polls :
    let s := after (.frame 9000 4)
      { working rec0 (job0 .fine 30 (some ⟨2, 30, none, 0, 0, 0, 0⟩)) with lastFrame := 8999 }
    s.outbox = [.poll 0 0 0 30] ∧ s.poll 0 = some ⟨0, .engine 0 1, 30, 8, false⟩ ∧ s.lastFrame = 9000 := by decide

/-- 01 §1.5: the sweep hears a HELD terminal; under HOLD it waits in the heard group with retries 0. -/
theorem test_sweep_hears :
    let s := after (.pollResult 4 1 0 64)
      (({ one { rec0 with state := .held, retries := 5 } with hold := true }).setPoll 4 (some ⟨0, .sweep, 36, 3, false⟩))
    s.queue = [0] ∧ (s.term 0).heard = true ∧ (s.term 0).retries = 0 ∧ s.poll 4 = none := by decide

/-- 10 §10.6: the ladder's order is checked after the clamps: 240 and 250 are both 240. -/
theorem test_ladder_order :
    (after (.setLadder 9 [1, 2, 3, 4, 5, 6, 240, 250, 8]) State.reset).reply = some ⟨9, 0x43, .order, []⟩ := by decide

/-- 11 §11.7: the nine check bytes of the CRC. -/
theorem test_crc_check : crc16 [0x31, 0x32, 0x33, 0x34, 0x35, 0x36, 0x37, 0x38, 0x39] = 0x29B1#16 := by
  decide

/-- R150: at the sixteenth millisecond of silence the flag is set. -/
theorem test_silence :
    (match step { State.reset with silenceMs := 15 } with | .next t => t.modemSilent | _ => false) = true := by decide

/-! ### Witnesses: for each statement with hypotheses, values that meet them, clause by clause -/

/-- Terminal 1 in a state, nothing else in the part. -/
def lone (st : TermState) : State := one { rec0 with state := st }

/-- A body of PROVISION or AMEND for terminal `n` with the values of rec0 and class `c`, Pmax `pmax`. -/
def values (n c pmax : Byte) : List Byte := [n, c, 0xFE, 0xFC, 110, 120, pmax, 10, 2]

theorem witness_StepRunsFrontCommand :
    ({ State.reset with pending := [.hold 0 [], .replySent] } : State).pending = .hold 0 [] :: [.replySent] := rfl

theorem witness_IdleStepIsAMillisecond : State.reset.pending = [] := rfl

/-- A reply that is RESTART's OK, and one that is not. -/
theorem witness_ResetsAndReplies :
    (after (.restart 5 []) State.reset).reply = some ⟨5, 0x4F, .ok, []⟩ ∧
    (after (.restart 5 [0]) State.reset).reply = some ⟨5, 0x4F, .badLength, []⟩ ∧
    (after (.hold 5 []) State.reset).reply = some ⟨5, 0x4B, .ok, []⟩ := by decide

/-- Both ways the start cause changes, and a command of the modem side. -/
theorem witness_ControlPortOwnsItsState :
    (exec .powerOn { State.reset with startCause := .restart } =
        .next { State.reset with startCause := .powerOn } ∧
      StartCause.powerOn ≠ StartCause.restart) ∧
    (exec .replySent (after (.restart 5 []) State.reset) = .next { State.reset with startCause := .restart }) ∧
    modemSide .modemSilent = true ∧ exec .modemSilent State.reset = .next (after .modemSilent State.reset) := by
  refine ⟨⟨rfl, by decide⟩, rfl, rfl, rfl⟩

theorem witness_MessagesAreNotWithdrawn :
    exec (.hold 1 []) State.reset = .next (after (.hold 1 []) State.reset) ∧ Instr.hold 1 [] ≠ .powerOn ∧
    Instr.hold 1 [] ≠ .replySent ∧ Instr.hold 1 [] ≠ .restartReset ∧ Instr.hold 1 [] ≠ .outboundMessageSent :=
  ⟨rfl, by decide⟩

/-- The bytes at the edges of 2..252, a dropped frame of a known kind and of an unknown one. -/
theorem witness_ReceiverEvents :
    ((1 : Byte).toNat < 2 ∧ 252 < (253 : Byte).toNat) ∧
    ({ State.reset with cpRx := ⟨.length, 0, [], 0⟩ } : State).cpRx.phase = .length ∧
    ({ State.reset with mlRx := ⟨.length, 0, [], 0⟩ } : State).mlRx.phase = .length ∧
    (¬ ((0x10 : Byte) = 0x10 ∧ ([1, 2] : List Byte).length = 3) ∧ (0x10 : Byte) ≠ 0x11 ∧ (0x10 : Byte) ≠ 0x12 ∧
      (0x10 : Byte) ≠ 0x13) ∧
    State.reset.cpRx.phase = .hunt ∧ State.reset.mlRx.phase = .hunt := by decide

theorem witness_FramesRefused :
    (after (.hold 1 []) State.reset).reqBuf.isSome = true ∧ State.reset.reqBuf = none ∧
    (0x3F : Byte).toNat < 0x40 ∧ 0x4F < (0x50 : Byte).toNat ∧ ([0] : List Byte).length ≠ ReqKind.hold.bodyLen ∧
    ([] : List Byte).length ≠ ReqKind.bar.bodyLen := by decide

/-- The longest body, both edges of the request kinds, and a wrong CRC. -/
theorem witness_ControlLineCarriesRequests :
    (List.replicate 250 (0 : Byte)).length ≤ 250 ∧ State.reset.cpRx.phase = .hunt ∧ (0x3F : Byte).toNat < 0x40 ∧
    0x4F < (0x50 : Byte).toNat ∧ (0 : BitVec 16) ≠ crc16 (crcScope ⟨0x4B, 1, []⟩) := by decide

theorem witness_ModemLineCarriesMessages :
    State.reset.mlRx.phase = .hunt ∧ ([] : List Byte).length ≤ 250 ∧
    (0 : BitVec 16) ≠ crc16 (crcScope ⟨0x12, 0, []⟩) := by decide

theorem witness_StatusAndQueueReplies : State.reset.reqBuf = none := rfl

/-- The law of R6 in a state with one QUEUED terminal, and in one with an ACTIVE terminal. -/
theorem witness_StatusCounts : CollectionsLaw (waiting rec0) ∧ CollectionsLaw (working rec0 (job0 .settle 10 none)) :=
  ⟨by decide, by decide⟩

theorem witness_SectorRequests : State.reset.reqBuf = none ∧ (List.replicate 25 (0xFF : Byte)).length = 25 := by decide

/-- Strictly increasing at the upper clamp, and equal thresholds. -/
theorem witness_SetLadderChecksOrder :
    (∀ i, i < 7 → min (numAt [1, 2, 3, 4, 5, 6, 239, 255, 8] i) 240 <
      min (numAt [1, 2, 3, 4, 5, 6, 239, 255, 8] (i + 1)) 240) ∧
    (∃ i, i < 7 ∧ min (numAt [1, 2, 3, 4, 5, 6, 240, 255, 8] (i + 1)) 240 ≤
      min (numAt [1, 2, 3, 4, 5, 6, 240, 255, 8] i) 240) :=
  ⟨by decide, 6, by decide⟩

/-- Terminal numbers 65, 0, 64 (UNUSED) and 1 (provisioned). -/
theorem witness_ReadTerminalReply :
    64 < (65 : Byte).toNat ∧ (0 : Byte).toNat = 0 ∧ ((64 : Byte).toNat = numberOf 63 ∧ ((lone .held).term 63).state = .unused) ∧
    ((1 : Byte).toNat = numberOf 0 ∧ ((lone .held).term 0).state ≠ .unused) ∧ (lone .held).reqBuf = none := by decide

theorem witness_ReadChangesReply : State.reset.reqBuf = none := rfl

theorem witness_FourReadChangesEmptyTheMap :
    (fun s : State => s.reqBuf = none ∧ s.reply = none ∧
      s.pending = [.readChanges 1 [], .replySent, .readChanges 2 [], .replySent, .readChanges 3 [], .replySent,
        .readChanges 4 [], .replySent])
      { State.reset with
        marks := Vector.replicate 64 true
        pending := [.readChanges 1 [], .replySent, .readChanges 2 [], .replySent, .readChanges 3 [], .replySent,
          .readChanges 4 [], .replySent] } := ⟨rfl, rfl, rfl⟩

/-- Terminal numbers 65, 0 and 64, and a state for each check. -/
theorem witness_TerminalChecks :
    (lone .held).reqBuf = none ∧ ([1] : List Byte).length = ReqKind.bar.bodyLen ∧
    ReqKind.bar ∈ [ReqKind.provision, .amend, .retire, .bar, .unbar, .restoreNow] ∧
    64 < numAt [65] 0 ∧ numAt [0] 0 = 0 ∧ numAt [64] 0 = numberOf 63 ∧ numAt [1] 0 = numberOf 0 ∧
    ((lone .held).term 63).state = .unused ∧ (ReqKind.bar ≠ .provision) ∧ ((lone .barred).term 0).state = .barred ∧
    ((lone .held).term 0).state ≠ .unused ∧ ((lone .held).term 0).state ≠ .barred ∧
    ((lone .queued).term 0).state = .queued := by decide

theorem witness_ProvisionServing :
    State.reset.reqBuf = none ∧ (values 64 0 60 ++ [0, 0, 1]).length = 12 ∧ numAt (values 64 0 60 ++ [0, 0, 1]) 0 = numberOf 63 ∧
    (State.reset.term 63).state = .unused ∧ byteAt (values 64 0 60 ++ [0, 0, 1]) 11 = 0x01 := by decide

/-- Enter-as codes 0 and 2. -/
theorem witness_ProvisionRestore :
    State.reset.reqBuf = none ∧ (values 1 0 60 ++ [0, 0, 0]).length = 12 ∧ numAt (values 1 0 60 ++ [0, 0, 0]) 0 = numberOf 0 ∧
    (State.reset.term 0).state = .unused ∧ byteAt (values 1 0 60 ++ [0, 0, 0]) 11 ≠ 0x01 ∧
    byteAt (values 1 0 60 ++ [0, 0, 2]) 11 ≠ 0x01 := by decide

/-- Pc 10 with the new Pmax 10: no clamp. -/
theorem witness_AmendStoresValues :
    FlagLaw (lone .serving) ∧ (lone .serving).reqBuf = none ∧ (values 1 0 10).length = 9 ∧ numAt (values 1 0 10) 0 = numberOf 0 ∧
    ((lone .serving).term 0).state ≠ .unused ∧ min (numAt (values 1 0 10) 1) 3 = ((lone .serving).term 0).cls ∧
    ((lone .serving).term 0).pc ≤ min (numAt (values 1 0 10) 6) 80 := by decide

/-- Pc 10 with the new Pmax 9; a job in VERIFY is held too. -/
theorem witness_AmendClampsPower :
    (lone .serving).reqBuf = none ∧ (values 1 0 9).length = 9 ∧ numAt (values 1 0 9) 0 = numberOf 0 ∧
    ((lone .serving).term 0).state ≠ .unused ∧ min (numAt (values 1 0 9) 6) 80 < ((lone .serving).term 0).pc ∧
    ((working rec0 (job0 .verify 10 none)).term 0).state ≠ .unused ∧
    (working rec0 (job0 .verify 10 none)).holds 0 0 (job0 .verify 10 none) := by
  have busy : (working rec0 (job0 .verify 10 none)).holds 0 0 (job0 .verify 10 none) := by unfold State.holds; decide
  exact ⟨rfl, rfl, by decide, by decide, by decide, by decide, busy⟩

/-- Pc 10 with the new Pmax 9 and the class changed from 0 to 3, in the queue, in an engine and on the stack, under HOLD. -/
theorem witness_AmendClampsPower_class :
    (∀ s ∈ [{ waiting rec0 with hold := true }, { working rec0 (job0 .coarse 10 none) with hold := true },
        { (lone .suspended).setStack [⟨0, 0, .fine, 10, 0, 0⟩] with hold := true }],
      s.reqBuf = none ∧ (s.term 0).state ≠ .unused ∧ min (numAt (values 1 3 9) 1) 3 ≠ (s.term 0).cls ∧
      min (numAt (values 1 3 9) 6) 80 < (s.term 0).pc) ∧
    (values 1 3 9).length = 9 ∧ numAt (values 1 3 9) 0 = numberOf 0 := by decide

/-- From class 0 to class 3, in the queue, in an engine and on the stack, under HOLD. -/
theorem witness_AmendChangesClass :
    (∀ s ∈ [{ waiting rec0 with hold := true }, { working rec0 (job0 .coarse 10 none) with hold := true },
        { (lone .suspended).setStack [⟨0, 0, .fine, 10, 0, 0⟩] with hold := true }],
      s.reqBuf = none ∧ (s.term 0).state ≠ .unused ∧ min (numAt (values 1 3 60) 1) 3 ≠ (s.term 0).cls ∧
      (s.term 0).pc ≤ min (numAt (values 1 3 60) 6) 80 ∧ s.hold = true) ∧
    (values 1 3 60).length = 9 ∧ numAt (values 1 3 60) 0 = numberOf 0 := by decide

theorem witness_RetireAndBarTakeOut :
    (lone .serving).reqBuf = none ∧ ([1] : List Byte).length = 1 ∧ numAt [1] 0 = numberOf 0 ∧
    ((lone .serving).term 0).state ≠ .unused ∧ ((lone .serving).term 0).state ≠ .barred := by decide

theorem witness_TerminalsRequeued :
    (lone .barred).reqBuf = none ∧ ([1] : List Byte).length = 1 ∧ numAt [1] 0 = numberOf 0 ∧
    ((lone .barred).term 0).state = .barred ∧ ((lone .backoff).term 0).state = .backoff ∧
    ((lone .held).term 0).state = .held ∧ ((lone .serving).term 0).state = .serving ∧
    ((lone .backoff).term 0).backoff = 0 ∧
    ¬ (((one { rec0 with state := .backoff, backoff := 1 }).term 0).state = .backoff ∧
      ((one { rec0 with state := .backoff, backoff := 1 }).term 0).backoff = 0) := by decide

theorem witness_HoldReleaseRestart : (waiting rec0).reqBuf = none := by decide

/-- Both clauses: HOLD, and neither HOLD nor OUTAGE with a terminal waiting. -/
theorem witness_EvaluationDecides :
    ({ waiting rec0 with hold := true } : State).hold = true ∧ (waiting rec0).hold = false ∧
    (waiting rec0).mode ≠ .outage := by decide

/-- A head of class 0 over a stack top of class 1, and a stack top of class 0 against a head of class 0. -/
theorem witness_FillTakesHeadOrTop :
    (waiting rec0).job 3 = none ∧ State.reset.stack = [] ∧ State.reset.queue = [] ∧
    (∀ s ∈ [(waiting rec0).setStack [⟨1, 1, .fine, 10, 0, 0⟩]],
      s.queue = 0 :: [] ∧ (0 : TermId) ∉ ([] : List TermId) ∧ (s.term 0).state = .queued ∧
      ∀ c ∈ s.stack.head?, (s.term 0).cls < c.cls) ∧
    (∀ s ∈ [((waiting rec0).setTerm 1 { rec0 with state := .suspended }).setStack [⟨1, 0, .fine, 10, 0, 0⟩]],
      s.stack = ⟨1, 0, .fine, 10, 0, 0⟩ :: [] ∧ (∀ t ∈ s.queue.head?, 0 ≤ (s.term t).cls) ∧
      (s.term 1).state = .suspended) := by decide

/-- Four engines at work on class 2, terminal 5 of class 1 at the head of the queue. -/
def crowded : State :=
  let s := [(0 : EngineId), 1, 2, 3].foldl (fun (s : State) e =>
    let t : TermId := ⟨e.val, by omega⟩
    (s.setTerm t { rec0 with state := .active, cls := 2 }).setJob e
      (some { Job.fresh t 2 (BitVec.ofNat 16 (e.val + 1)) .coarse 10 1 0 with gate := some ⟨1, 10, none, 0, 0, 0, 0⟩ })) State.reset
  { (s.setTerm 4 { rec0 with state := .queued, cls := 1 }).setQueue [4] with serial := 4, mode := .degraded }

/-- The preemption of the job on RE3, whose serial is the latest. -/
theorem witness_FillTakesHeadOrTop_preempt :
    crowded.queue = 4 :: [] ∧ (4 : TermId) ∉ ([] : List TermId) ∧ (∀ i, (crowded.job i).isSome = true) ∧
    crowded.victim.map (fun p => (p.1, p.2.term, p.2.cls)) = some (3, 3, 2) ∧ (crowded.term 4).cls < 2 ∧
    crowded.stack.length < 8 ∧ (crowded.term 4).state = .queued ∧ (crowded.term 3).state = .active ∧
    crowded.hold = false ∧ crowded.mode ≠ .outage ∧ { crowded with hold := true }.hold = true := by decide

/-- The ways the preemption step ends: an idle engine, an empty queue, no victim, a full stack, a victim of the head's class. -/
theorem witness_FillTakesHeadOrTop_ends :
    (waiting rec0).job 3 = none ∧ State.reset.queue = [] ∧ State.reset.victim = none ∧
    8 ≤ (crowded.setStack (List.replicate 8 ⟨9, 3, .fine, 10, 0, 0⟩)).stack.length ∧
    (∀ s ∈ [crowded.setTerm 4 { rec0 with state := .queued, cls := 2 }],
      s.queue = 4 :: [] ∧ s.victim.map (fun p => p.2.cls) = some 2 ∧ 2 ≤ (s.term 4).cls) := by decide

/-- 05 R86: terminal 4 is SUSPENDED with its context on the stack, and RE3 works on terminal 5. -/
theorem test_preemption :
    crowded.evaluate.stack = [⟨3, 2, .coarse, 10, 1, 0⟩] ∧ (crowded.evaluate.term 3).state = .suspended ∧
    (crowded.evaluate.job 3).map (fun j => (j.term, j.serial)) = some (4, 5) ∧ crowded.evaluate.queue = [] := by decide

/-- A victim, and no victim while the one job is in SETTLE. -/
theorem witness_VictimIsLatestOfLargestClass :
    (working rec0 (job0 .coarse 10 none)).victim = some (0, job0 .coarse 10 none) ∧
    (working rec0 (job0 .settle 10 none)).victim = none := by decide

/-- Lp at 1 and at 8, a mark in sequence and a slip, a command whose effect frame is the mark's number. -/
theorem witness_FrameMarkClocks :
    (∀ lp ∈ [1, 8], ∀ s ∈ [({ s24 with params := { s24.params with latency := lp } } : State)],
      ModeLaw s ∧ 1 ≤ s.params.latency ∧ s.params.latency ≤ 8) ∧
    (4101 : FrameNo) = s24.lastFrame + 1 ∧ (4102 : FrameNo) ≠ s24.lastFrame + 1 := by decide

/-- BACKOFF with 1, 2 and 0 frames left, in sequence and on a slip, and under HOLD. -/
theorem witness_FrameMarkOnTerminals :
    (∀ n ∈ [0, 1, 2], ∀ s ∈ [({ one { rec0 with state := .backoff, backoff := n } with hold := true } : State)],
      CollectionsLaw s ∧ (s.term 0).state = .backoff ∧ (s.term 0).state ≠ .active ∧ s.hold = true ∧
      ((s.term 0).backoff ≤ 1 ∨ 2 ≤ (s.term 0).backoff)) ∧
    (1 : FrameNo) = State.reset.lastFrame + 1 ∧ (0 : FrameNo) ≠ State.reset.lastFrame + 1 := by decide

/-- A job in SETTLE with two marks to its tick, and a VERIFY gate, each with the frame 6003 to count from; a mark in sequence
and a slip onto 6001, before that frame. -/
theorem witness_FrameMarkOnJobs :
    (∀ j ∈ [{ job0 .settle 10 none with
          ramp := some ⟨40, 1, .still, 2⟩, admitFrame := some 6003, cmdFrame := some 6003 },
        { job0 .verify 10 (some ⟨2, 10, some 6003, 0, 0, 0, 0⟩) with admitFrame := some 6003, cmdFrame := some 6003 }],
      ∀ s ∈ [({ working rec0 j with lastFrame := 6000 } : State)],
      CollectionsLaw s ∧ s.job 0 = some j ∧ j.pollInFlight = none ∧
      (j.phase = .settle ∧ j.ramp.map Ramp.tick = some 2 ∨ j.phase = .verify ∧ j.ramp = none) ∧
      (6001 : FrameNo) = s.lastFrame + 1 ∧ (6002 : FrameNo) ≠ s.lastFrame + 1) ∧
    (1 ≤ ((6003 : FrameNo) - 6002).toNat ∧ ((6003 : FrameNo) - 6002).toNat ≤ 32767) := by decide

/-- A mark in sequence and a slip, with their pull-back. -/
theorem witness_FrameMarkRunsItsEnds :
    ∀ n ∈ [(1 : FrameNo), 2], ∃ (slip : Bool) (pull : FrameNo → FrameNo), slip = decide (n ≠ State.reset.lastFrame + 1) ∧
      ∀ f, pull f = if 1 ≤ (f - n).toNat ∧ (f - n).toNat ≤ 32767 then n else f :=
  fun _ _ => ⟨_, _, rfl, fun _ => rfl⟩

/-- An engine that needs a poll takes the first free tag, and a BACKOFF terminal is swept in the next slot: 07 R119 to R121. -/
theorem test_allocation :
    let r := { rec0 with state := .backoff, backoff := 9 }
    let s := ((working rec0 (job0 .coarse 10 (some ⟨1, 10, none, 0, 0, 0, 0⟩))).setTerm 7 r).allocate 4
    s.outbox = [.poll 0 0 0 10, .poll 1 7 1 10] ∧ s.cursor = 8 ∧ s.poll 1 = some ⟨7, .sweep, 10, 8, false⟩ := by decide

/-- An entry with two marks left. -/
theorem witness_FrameMarkPolls :
    (State.reset.setPoll 7 (some ⟨0, .sweep, 3, 2, true⟩)).poll 7 = some ⟨0, .sweep, 3, 2, true⟩ ∧
    2 ≤ (⟨0, .sweep, 3, 2, true⟩ : PollEntry).countdown := by decide

/-- Terminal numbers 0, 65 and 64 (UNUSED); an ACTIVE terminal in COARSE; a SERVING one short of the miss limit; and a burst
one frame, and 32767 frames, before the ambiguity-until frame. -/
theorem witness_ReportsOfLittleEffect :
    (FlagLaw (lone .serving) ∧ (0 : Byte).toNat = 0 ∧ 64 < (65 : Byte).toNat ∧
      ((64 : Byte).toNat = numberOf 63 ∧ ((lone .serving).term 63).state ∈ [TermState.unused, .queued])) ∧
    (FlagLaw (working rec0 (job0 .coarse 10 none)) ∧ ((working rec0 (job0 .coarse 10 none)).term 0).state = .active ∧
      (working rec0 (job0 .coarse 10 none)).job 0 = some (job0 .coarse 10 none) ∧ Phase.coarse.searching = true) ∧
    ((1 : Byte).toNat = numberOf 0 ∧ ((lone .serving).term 0).state = .serving ∧
      (∀ n ∈ [0, 2], min (((one { rec0 with state := .serving, missCount := n }).term 0).missCount + 1) 15 <
        State.reset.params.missLimit) ∧
      State.reset.params.errLimit < min (7 : Byte).toNat 64 ∧ min (6 : Byte).toNat 64 ≤ State.reset.params.errLimit) ∧
    (((one { rec0 with state := .serving, ambigUntil := some 9 }).term 0).ambigUntil = some 9 ∧
      1 ≤ ((9 : FrameNo) - 8).toNat ∧ ((9 : FrameNo) - 8).toNat ≤ 32767 ∧ ((9 : FrameNo) - 32778).toNat = 32767) := by
  decide

/-- A terminal one miss short of the limit with an empty window, and one two short of the quorum; FLOOR downstream, and FLOOR
upstream at Pmax; in DEGRADED and in OUTAGE. -/
theorem witness_MeasurementLoses :
    (∀ s ∈ [one { rec0 with state := .serving, missCount := 3 },
        { one { rec0 with state := .serving, missCount := 15 } with lossWindow := List.replicate 6 1 },
        { one { rec0 with state := .serving, missCount := 3 } with mode := .outage }],
      (1 : Byte).toNat = numberOf 0 ∧ (s.term 0).state = .serving ∧
      s.params.missLimit ≤ min ((s.term 0).missCount + 1) 15 ∧
      (s.mode = .outage ∨ s.lossWindow.length + 1 < s.params.quorum) ∧ s.params.errLimit < min (7 : Byte).toNat 64) ∧
    (∀ r ∈ [{ rec0 with state := .serving, sd := 19 }, { rec0 with state := .serving, su := 9, pmax := 10 }],
      ∀ s ∈ [one r],
      (s.term 0).state = .serving ∧ min (0 : Byte).toNat 64 ≤ s.params.errLimit ∧ (s.term 0).ambigUntil = none ∧
      (marginDown ((s.term 0).completed s.lastFrame).sd (downFade 0 s.params.ratio) < s.ladder.at 0 ∨
        (marginUp ((s.term 0).completed s.lastFrame).su ((s.term 0).completed s.lastFrame).pc 0 < s.ladder.at 0 ∧
          ((s.term 0).completed s.lastFrame).pc = ((s.term 0).completed s.lastFrame).pmax)) ∧
      0 = smooth s.params.alpha (s.term 0).fade (fadeSample (s.term 0).refLevel
        (((s.term 0).completed s.lastFrame).burstPower 0) (max (-480) (min (BitVec.ofInt 16 (-80)).toInt (-80))))) := by
  decide

/-- Two engines and one context at work when the second loss meets a quorum of 2. -/
def beforeOutage : State :=
  let s := working rec0 { job0 .settle 10 none with admitFrame := some 1, ramp := some ⟨20, 1, .still, 4⟩ }
  let s := (s.setTerm 1 { rec0 with state := .active, cls := 1 }).setJob 3 (some { job0 .fine 12 none with term := 1, cls := 1 })
  let s := (s.setTerm 2 { rec0 with state := .suspended, cls := 1 }).setStack [⟨2, 1, .coarse, 12, 0, 0⟩]
  let s := (s.setTerm 3 { rec0 with state := .queued, cls := 1, heard := true }).setQueue [3]
  let s := s.setTerm 4 { rec0 with state := .serving, cls := 1, missCount := 3 }
  { s with lossWindow := [7], params := { s.params with quorum := 2 } }

theorem witness_QuorumBeginsOutage :
    CollectionsLaw beforeOutage ∧ (5 : Byte).toNat = numberOf 4 ∧ (beforeOutage.term 4).state = .serving ∧
    beforeOutage.params.missLimit ≤ min ((beforeOutage.term 4).missCount + 1) 15 ∧
    beforeOutage.params.errLimit < min (7 : Byte).toNat 64 ∧ beforeOutage.mode ≠ .outage ∧
    beforeOutage.params.quorum ≤ beforeOutage.lossWindow.length + 1 := ⟨by decide, by decide⟩

/-- The same outage begun by FLOOR. -/
theorem witness_QuorumBeginsOutage_floor :
    ∀ s ∈ [({ one { rec0 with state := .serving, sd := 19 } with lossWindow := List.replicate 7 1 } : State)],
      CollectionsLaw s ∧ (1 : Byte).toNat = numberOf 0 ∧ (s.term 0).state = .serving ∧
      min (0 : Byte).toNat 64 ≤ s.params.errLimit ∧ (s.term 0).ambigUntil = none ∧
      0 = smooth s.params.alpha ((s.term 0).completed s.lastFrame).fade (fadeSample (s.term 0).refLevel
        (((s.term 0).completed s.lastFrame).burstPower 0) (max (-480) (min (BitVec.ofInt 16 (-80)).toInt (-80)))) ∧
      marginDown ((s.term 0).completed s.lastFrame).sd (downFade 0 s.params.ratio) < s.ladder.at 0 ∧
      s.mode ≠ .outage ∧ s.params.quorum ≤ s.lossWindow.length + 1 := by decide

/-- 08 R139, R140: the abandoned terminals 1, 2 and 3 and the lost terminal 5 join terminal 4; the admitted job and the lost
terminal are withdrawn. -/
theorem test_outage_entry :
    (after (.miss 5 9) beforeOutage).mode = .outage ∧ (after (.miss 5 9) beforeOutage).queue = [0, 1, 2, 3, 4] ∧
    (after (.miss 5 9) beforeOutage).outbox = [.withdraw 4, .withdraw 0] := by decide

/-- A move and no move: at a distance of one above the deadband (04 §4.4), and of the deadband itself. -/
theorem witness_SampledBurst :
    ∀ db ∈ [5, 6], ∀ s ∈ [({ s44 with params := { s44.params with deadband := db } } : State)],
      PowerLaw s ∧ 1 ≤ s.params.trackStep ∧ (1 : Byte).toNat = numberOf 0 ∧ (s.term 0).state = .serving ∧
      min (0 : Byte).toNat 64 ≤ s.params.errLimit ∧ (s.term 0).ambigUntil = none ∧
      22 = smooth s.params.alpha (s.term 0).fade (fadeSample (s.term 0).refLevel
        (((s.term 0).completed s.lastFrame).burstPower 2999) (max (-480) (min (BitVec.ofInt 16 (-264)).toInt (-80)))) ∧
      servingVerdict s.ladder { (s.term 0).completed s.lastFrame with fade := 22 }
        (marginDown (s.term 0).sd (downFade 22 s.params.ratio)) (marginUp (s.term 0).su (s.term 0).pc 22) = .pair 1 1 true ∧
      14 = powerTarget 22 s.params.allowance (s.term 0).pmax ∧ ((s.term 0).completed s.lastFrame).pendingCmd = none ∧
      (s.params.deadband < (14 - (s.term 0).pc) + ((s.term 0).pc - 14) ∨
        (14 - (s.term 0).pc) + ((s.term 0).pc - 14) ≤ s.params.deadband) := by decide

/-- A job in SETTLE with the admit frame 6003, and a VERIFY gate of depth 2 counting from there. -/
def verifying (g : Gate) : State :=
  working rec0 { job0 .verify 10 (some g) with admitFrame := some 6003, cmdFrame := some 6003 }

def gate0 : Gate := ⟨2, 10, some 6003, 0, 0, 0, 0⟩

/-- Frames one before the admit and count-from frames and those frames themselves; below the miss limit and the depth. -/
theorem witness_AdmittedReportsCount :
    (FlagLaw settling ∧ (1 : Byte).toNat = numberOf 0 ∧ (settling.term 0).state = .active ∧ settling.engineOf 0 = some 0 ∧
      (settling.job 0).map Job.phase = some .settle ∧ (settling.job 0).map Job.admitFrame = some (some 6003) ∧
      (settling.job 0).map (fun j => decide (min (j.settleMiss + 1) 15 < settling.params.missLimit)) = some true) ∧
    (FlagLaw (verifying gate0) ∧ ((verifying gate0).term 0).state = .active ∧ (verifying gate0).engineOf 0 = some 0 ∧
      ((verifying gate0).job 0).map Job.phase = some .verify ∧ ((verifying gate0).job 0).map Job.gate = some (some gate0) ∧
      gate0.countFrom = some 6003 ∧ gate0.counted + 1 < gate0.depth) ∧
    (1 ≤ ((6003 : FrameNo) - 6002).toNat ∧ ((6003 : FrameNo) - 6002).toNat ≤ 32767) ∧
    ¬ (1 ≤ ((6003 : FrameNo) - 6003).toNat ∧ ((6003 : FrameNo) - 6003).toNat ≤ 32767) ∧
    min (6 : Byte).toNat 64 ≤ settling.params.errLimit ∧ settling.params.errLimit < min (7 : Byte).toNat 64 := by decide

/-- A VERIFY gate of depth 1 whose one response of level −250 has 6 pilot errors, F 0. -/
theorem witness_VerifyHandsBack :
    CollectionsLaw (verifying { gate0 with depth := 1 }) ∧
    (1 : Byte).toNat = numberOf 0 ∧
    (∀ s ∈ [verifying { gate0 with depth := 1 }], ∀ g' ∈ [({ gate0 with depth := 1 } : Gate).count
        (some (receivedResponse (BitVec.ofInt 16 (-250)) 6))],
      (s.term 0).state = .active ∧ s.engineOf 0 = some 0 ∧ (s.job 0).map Job.gate = some (some { gate0 with depth := 1 }) ∧
      ¬ (1 ≤ ((6003 : FrameNo) - 6003).toNat ∧ ((6003 : FrameNo) - 6003).toNat ≤ 32767) ∧
      g'.depth ≤ g'.counted ∧ 1 ≤ g'.responses ∧ g'.errorTotal ≤ g'.depth * s.params.errLimit ∧
      0 = smooth s.params.alpha (s.term 0).fade
        (fadeSample (s.term 0).refLevel g'.power (g'.levelSum.fdiv g'.responses)) ∧
      ¬ (marginDown (s.term 0).sd (downFade 0 s.params.ratio) < s.ladder.at 0) ∧
      ¬ (marginUp (s.term 0).su g'.power 0 < s.ladder.at 0 ∧ (s.term 0).pc = (s.term 0).pmax)) := by
  refine ⟨by decide, by decide, by decide⟩

/-- SETTLE one miss short of the limit, below Pmax and at Pmax with a limit count to spare; VERIFY at its last outcome. -/
theorem witness_AdmittedReturnsToFine :
    (∀ pc ∈ [10, 60], ∀ s ∈ [working { rec0 with pc := pc, pe := pc } { job0 .settle 10 none with
          ramp := some ⟨40, 1, .still, 3⟩, admitFrame := some 6003, cmdFrame := some 6003, settleMiss := 3 }],
      (1 : Byte).toNat = numberOf 0 ∧ (s.term 0).state = .active ∧ s.engineOf 0 = some 0 ∧
      (s.job 0).map Job.phase = some .settle ∧ (s.job 0).map Job.admitFrame = some (some 6003) ∧
      ¬ (1 ≤ ((6003 : FrameNo) - 6003).toNat ∧ ((6003 : FrameNo) - 6003).toNat ≤ 32767) ∧
      (s.job 0).map (fun j => decide (s.params.missLimit ≤ min (j.settleMiss + 1) 15)) = some true ∧
      s.params.errLimit < (receivedResponse 0 7).errors ∧
      ((s.term 0).pc < (s.term 0).pmax ∨ (0 : Nat) + 1 < s.params.limitPolls)) ∧
    (∀ o ∈ [none, some (receivedResponse 0 64)], ∀ s ∈ [verifying { gate0 with counted := 1 }],
      ∀ g' ∈ [({ gate0 with counted := 1 } : Gate).count o],
      (s.term 0).state = .active ∧ s.engineOf 0 = some 0 ∧
      (s.job 0).map Job.gate = some (some { gate0 with counted := 1 }) ∧ g'.depth ≤ g'.counted ∧
      (g'.responses = 0 ∨ g'.depth * s.params.errLimit < g'.errorTotal) ∧ (s.term 0).pc < (s.term 0).pmax) := by decide

/-- Tags 8 and 2 (free), outcome code 2; a stale entry, an engine's entry of another serial, a sweep entry of a SERVING
terminal; and an awaited poll of a FINE gate of depth 2. -/
theorem witness_PollOutcomes :
    (FlagLaw State.reset ∧ 7 < (8 : Byte).toNat ∧ 1 < (2 : Byte).toNat ∧ (2 : Byte).toNat = (2 : PollTag).val ∧
      State.reset.poll 2 = none) ∧
    (∀ p ∈ [(⟨0, .sweep, 9, 3, true⟩ : PollEntry), ⟨0, .engine 3 1, 9, 3, false⟩, ⟨0, .sweep, 9, 3, false⟩],
      ∀ s ∈ [(lone .serving).setPoll 2 (some p)],
      FlagLaw s ∧ (1 : Byte).toNat ≤ 1 ∧ s.poll 2 = some p ∧
      (p.stale = true ∨ (p.owner = .engine 3 1 ∧ s.job 3 = none) ∨
        (p.owner = .sweep ∧ (s.term p.term).state = .serving))) ∧
    (∀ s ∈ [polled rec0 (job0 .fine 10 (some ⟨2, 10, none, 0, 0, 0, 0⟩))],
      FlagLaw s ∧ s.poll 2 = some ⟨0, .engine 0 1, 10, 8, false⟩ ∧
      (s.job 0).map (fun j => (j.serial, j.phase, j.gate)) = some (1, .fine, some ⟨2, 10, none, 0, 0, 0, 0⟩) ∧
      0 + 1 < (⟨2, 10, none, 0, 0, 0, 0⟩ : Gate).depth) := by decide

/-- SILENT at the ceiling with the limit count short of Lq, HEARD below it; and ACCEPTED with two CONFIRM gates to gather. -/
theorem witness_SearchGateJudged :
    (∀ p ∈ [10, 60], ∀ s ∈ [polled rec0 (job0 .coarse p (some ⟨1, p, none, 0, 0, 0, 0⟩))],
      ∀ o ∈ [none, some (receivedResponse 0 7)], ∀ g' ∈ [(⟨1, p, none, 0, 0, 0, 0⟩ : Gate).count o],
      FlagLaw s ∧ s.poll 2 = some ⟨0, .engine 0 1, p, 8, false⟩ ∧
      (s.job 0).map Job.gate = some (some ⟨1, p, none, 0, 0, 0, 0⟩) ∧ g'.depth ≤ g'.counted ∧
      (g'.responses = 0 ∨ g'.depth * s.params.errLimit < g'.errorTotal) ∧
      (g'.power < (s.term 0).pmax ∨ 0 + 1 < s.params.limitPolls)) ∧
    pollOutcomeOf 0 0 7 = some none ∧ pollOutcomeOf 1 0 7 = some (some (receivedResponse 0 7)) ∧
    (∀ s ∈ [polled rec0 (job0 .coarse 10 (some ⟨1, 10, none, 0, 0, 0, 0⟩))],
      ∀ g' ∈ [(⟨1, 10, none, 0, 0, 0, 0⟩ : Gate).count (some (receivedResponse 0 6))],
      FlagLaw s ∧ g'.depth ≤ g'.counted ∧ 1 ≤ g'.responses ∧ g'.errorTotal ≤ g'.depth * s.params.errLimit ∧
      1 ≤ s.params.confirmCount - 1) := by decide

theorem witness_ConfirmAdmits :
    ∀ o ∈ [some (receivedResponse (BitVec.ofInt 16 (-298)) 6)], ∀ g' ∈ [(⟨1, 10, none, 0, 0, 0, 0⟩ : Gate).count o],
      pollOutcomeOf 1 (BitVec.ofInt 16 (-298)) 6 = some o ∧ (2 : Byte).toNat = (2 : PollTag).val ∧
      s67.poll 2 = some ⟨0, .engine 0 1, 10, 8, false⟩ ∧
      (s67.job 0).map (fun j => (j.serial, j.phase, j.gate)) = some (1, .fine, some ⟨1, 10, none, 0, 0, 0, 0⟩) ∧
      g'.depth ≤ g'.counted ∧ 1 ≤ g'.responses ∧ g'.errorTotal ≤ g'.depth * s67.params.errLimit ∧
      s67.params.confirmCount - 1 = 0 := by decide

/-- Retries at the retry limit and above it, at the ceiling with the limit count Lq − 1, with and without HOLD. -/
theorem witness_JobsExhaust :
    (∀ n ∈ [3, 4], ∀ h ∈ [true, false],
      ∀ s ∈ [({ polled { rec0 with retries := n } { job0 .fine 60 (some ⟨1, 60, none, 0, 0, 0, 0⟩) with limitCount := 2 }
        with hold := h } : State)], ∀ g' ∈ [(⟨1, 60, none, 0, 0, 0, 0⟩ : Gate).count none],
      s.poll 2 = some ⟨0, .engine 0 1, 60, 8, false⟩ ∧ g'.depth ≤ g'.counted ∧ g'.responses = 0 ∧
      (s.term 0).pmax ≤ g'.power ∧ s.params.limitPolls ≤ 2 + 1 ∧
      (min ((s.term 0).retries + 1) 15 ≤ s.params.retryLimit ∨ s.params.retryLimit < min ((s.term 0).retries + 1) 15)) ∧
    CollectionsLaw (polled { rec0 with retries := 3 }
      { job0 .fine 60 (some ⟨1, 60, none, 0, 0, 0, 0⟩) with limitCount := 2 }) := ⟨by decide, by decide⟩

/-- An admitted job at Pmax with the limit count Lq − 1: SETTLE one miss short of the limit, and VERIFY at its last outcome. -/
theorem witness_JobsExhaust_admitted :
    (∀ j ∈ [{ job0 .settle 10 none with
          ramp := some ⟨40, 1, .still, 3⟩, admitFrame := some 6003, cmdFrame := some 6003, settleMiss := 3, limitCount := 2 },
        { job0 .verify 10 (some { gate0 with counted := 1 }) with
          admitFrame := some 6003, cmdFrame := some 6003, limitCount := 2 }],
      ∀ s ∈ [working { rec0 with pc := 60, pe := 60 } j], ∀ o ∈ [none, some (receivedResponse 0 64)],
      CollectionsLaw s ∧ (1 : Byte).toNat = numberOf 0 ∧ (s.term 0).state = .active ∧ s.engineOf 0 = some 0 ∧
      s.job 0 = some j ∧
      (j.phase = .settle ∧ (∀ x ∈ o, s.params.errLimit < x.errors) ∧ s.params.missLimit ≤ min (j.settleMiss + 1) 15 ∨
        j.phase = .verify ∧ ∃ g ∈ j.gate, (g.count o).depth ≤ (g.count o).counted ∧
          ((g.count o).responses = 0 ∨ (g.count o).depth * s.params.errLimit < (g.count o).errorTotal)) ∧
      (s.term 0).pmax ≤ (s.term 0).pc ∧ s.params.limitPolls ≤ j.limitCount + 1) ∧
    ¬ (1 ≤ ((6003 : FrameNo) - 6003).toNat ∧ ((6003 : FrameNo) - 6003).toNat ≤ 32767) := by decide

/-- A VERIFY gate ACCEPTED with the downstream margin below T0, and with the upstream one below it at Pmax. -/
theorem witness_JobsExhaust_floor :
    ∀ r ∈ [{ rec0 with sd := 19 }, { rec0 with su := 9, pmax := 10 }],
      ∀ s ∈ [working r { job0 .verify 10 (some { gate0 with depth := 1 }) with
        admitFrame := some 6003, cmdFrame := some 6003 }],
      ∀ g' ∈ [({ gate0 with depth := 1 } : Gate).count (some (receivedResponse (BitVec.ofInt 16 (-250)) 6))],
      CollectionsLaw s ∧ (s.term 0).state = .active ∧ s.engineOf 0 = some 0 ∧ (s.job 0).map Job.phase = some .verify ∧
      (s.job 0).map Job.gate = some (some { gate0 with depth := 1 }) ∧
      g'.depth ≤ g'.counted ∧ 1 ≤ g'.responses ∧ g'.errorTotal ≤ g'.depth * s.params.errLimit ∧
      0 = smooth s.params.alpha (s.term 0).fade
        (fadeSample (s.term 0).refLevel g'.power (g'.levelSum.fdiv g'.responses)) ∧
      (marginDown (s.term 0).sd (downFade 0 s.params.ratio) < s.ladder.at 0 ∨
        (marginUp (s.term 0).su g'.power 0 < s.ladder.at 0 ∧ (s.term 0).pc = (s.term 0).pmax)) := by decide

/-- A QUEUED, a BACKOFF and a HELD terminal. -/
theorem witness_SweepHears :
    ∀ s₀ ∈ [waiting rec0, one { rec0 with state := .backoff, backoff := 5 }, lone .held],
      ∀ s ∈ [s₀.setPoll 7 (some ⟨0, .sweep, 9, 3, false⟩)],
      CollectionsLaw s ∧ (7 : Byte).toNat = (7 : PollTag).val ∧ s.poll 7 = some ⟨0, .sweep, 9, 3, false⟩ ∧
      ((s.term 0).state = .queued ∨ (s.term 0).state = .backoff ∨ (s.term 0).state = .held) ∧
      { s with hold := true }.hold = true ∧ ¬ ((s.term 0).state = .queued ∧ (s.term 0).heard = true) := by decide

/-- Distance 30, distance 0, and a command pending. -/
theorem witness_RampTicks :
    (∀ s ∈ [settling, settling.setTerm 0 { rec0 with state := .active, fade := 18, foundPower := some 10 },
        settling.setTerm 0 { rec0 with state := .active, fade := 48, foundPower := some 10, pendingCmd := some ⟨10, 6005⟩ }],
      PowerLaw s ∧ s.params = .defaults ∧ s.engineOf 0 = some 0 ∧
      (s.job 0).map (fun j => (j.term, j.phase, j.ramp)) = some (0, .settle, some ⟨40, 1, .still, 0⟩)) ∧
    SectorLaw settling ∧ min (max (min (48 - 8) 60) 10) 60 = 40 ∧ min (max (min (18 - 8) 60) 10) 60 = 10 :=
  ⟨by decide, by decide, by decide⟩

/-- A command and a window whose frame is the current one, and ones whose frame is not; a spent and an unspent countdown. -/
theorem witness_EndsOfOperations :
    (({ s24 with lastFrame := 4102 } : State).term 0).pendingCmd = some ⟨8, 4102⟩ ∧
    ({ s24 with lastFrame := 4102 } : State).lastFrame = 4102 ∧ (s24.term 0).pendingCmd = some ⟨8, 4102⟩ ∧
    s24.lastFrame ≠ 4102 ∧ ((one { rec0 with ambigUntil := some 0 }).term 0).ambigUntil = some State.reset.lastFrame ∧
    (s24.term 0).ambigUntil ≠ some s24.lastFrame ∧ (State.reset.send (.withdraw 0)).outbox = .withdraw 0 :: [] ∧
    State.reset.mlRx = ⟨.hunt, 0, [], 0⟩ ∧
    (State.reset.setPoll 0 (some ⟨0, .sweep, 9, 0, false⟩)).poll 0 = some ⟨0, .sweep, 9, 0, false⟩ ∧
    (State.reset.setPoll 0 (some ⟨0, .sweep, 9, 1, false⟩)).poll 0 = some ⟨0, .sweep, 9, 1, false⟩ ∧
    (⟨0, .sweep, 9, 1, false⟩ : PollEntry).countdown ≠ 0 ∧
    ((working rec0 { job0 .settle 10 none with ramp := some ⟨40, 1, .still, 1⟩ }).job 0).map Job.ramp =
      some (some ⟨40, 1, .still, 1⟩) := by decide

/-- α at 1 and at 8, F and the sample at both ends. -/
theorem witness_SmoothingMovesTowardSample :
    ∀ a ∈ [1, 8], ∀ F ∈ [0, 240], ∀ fu ∈ [0, 240], 1 ≤ a ∧ a ≤ 8 ∧ F ≤ 240 ∧ fu ≤ 240 := by decide

/-- 02 §2.4: from 40 toward 60 with α = 4 is 50; a difference of one is met. -/
theorem test_smooth : smooth 4 40 60 = 50 ∧ smooth 1 40 41 = 41 ∧ smooth 1 41 40 = 40 := by decide

theorem witness_FadeFigures :
    1 ≤ (⟨1, 0, none, 1, 1, 0, -250⟩ : Gate).responses ∧ 127 * 32 ≤ 4087 ∧ 4087 < 128 * 32 ∧ 8 ≤ 8 ∧ 4096 ≤ 4096 ∧ 1 ≤ 1 := by
  decide

/-- A pending command: a burst one frame before its effect frame, and one of that frame. -/
theorem witness_FadeFigures_burst :
    (s24.term 0).pendingCmd = some ⟨8, 4102⟩ ∧ 1 ≤ ((4102 : FrameNo) - 4101).toNat ∧
    ¬ (1 ≤ ((4102 : FrameNo) - 4102).toNat) ∧ (rec0).pendingCmd = none := by decide

/-- Below floor downstream, upstream at Pmax, and upstream short of Pmax. -/
theorem witness_ProfileChoices_verdict :
    (19 : Int) < Ladder.defaults.at 0 ∧ ({ rec0 with pc := 60 } : TermRec).pc = rec0.pmax ∧ rec0.pc ≠ rec0.pmax ∧
    ¬ ((20 : Int) < Ladder.defaults.at 0) := by decide

/-- Margins one below and at the threshold of profile 7, and the ends of the profiles. -/
theorem witness_ProfileChoices :
    Ladder.defaults.increasing = true ∧ 0 ≤ 7 ∧ 7 ≤ 7 ∧ (107 : Int) < Ladder.defaults.at 7 ∧
    (Ladder.defaults.at 7 : Int) ≤ 108 := by decide

/-! The invariants' premises, each met by the state after reset; its step is one millisecond. -/

theorem witness_StepKeeps_step : step State.reset = .next State.reset.tick := rfl

theorem witness_StepKeepsCollections : ProvisionedLaw State.reset ∧ CollectionsLaw State.reset := by decide

theorem witness_StepKeepsQueueOrder : QueueOrdered State.reset := by decide

theorem witness_StepKeepsModeLaw : ModeLaw State.reset := by decide

theorem witness_StepKeepsPowerLaw : PowerLaw State.reset := by decide

theorem witness_StepKeepsRanges :
    RecordLaw State.reset ∧ SectorLaw State.reset ∧ LadderLaw State.reset ∧ CounterLaw State.reset := by decide

theorem witness_StepKeepsCapacities : StackLaw State.reset ∧ WindowLaw State.reset ∧ BufferLaw State.reset := by decide

theorem witness_StepKeepsEnginesBusy : FillLaw State.reset ∧ OutageLaw State.reset ∧ FlagLaw State.reset := by decide

/-- A job in COARSE, and a context in FINE on the stack. -/
theorem witness_StepKeepsJobShape :
    ∀ s ∈ [(working rec0 (job0 .coarse 10 (some ⟨1, 10, none, 0, 0, 0, 0⟩))).setStack [⟨1, 1, .fine, 10, 0, 0⟩]],
      ContextLaw s ∧ JobLaw s := by decide

end Sys2Proof.Tests
end

section
/-! What a record can become, and the shapes in which the model writes records: one write of a place after another, a
transition whose from-state is known, a terminal that joins the queue with a new record. -/

namespace Sys2Proof.Machine

/-! ### Writes to one place -/

theorem set_set_place {α : Type} {n : Nat} (v : Vector α n) (i : Fin n) (x y : α) :
    (v.set i.val x i.isLt).set i.val y i.isLt = v.set i.val y i.isLt := by simp

@[simp] theorem State.setTerm_setTerm (s : State) (t : TermId) (r r' : TermRec) :
    (s.setTerm t r).setTerm t r' = s.setTerm t r' := by
  simp only [State.setTerm, set_set_place]

@[simp] theorem State.setTerm_self (s : State) (t : TermId) : s.setTerm t (s.term t) = s := by
  have h : s.terms.set t.val (s.term t) t.isLt = s.terms := Vector.set_getElem_self t.isLt
  simp only [State.setTerm, h]

@[simp] theorem State.setJob_self (s : State) (e : EngineId) : s.setJob e (s.job e) = s := by
  have h : s.engines.set e.val (s.job e) e.isLt = s.engines := Vector.set_getElem_self e.isLt
  simp only [State.setJob, h]

theorem State.setTerm_term_ne (s : State) {t u : TermId} (r : TermRec) (h : u ≠ t) :
    (s.setTerm t r).term u = s.term u := by
  rw [State.setTerm_term, if_neg h]

theorem State.setJob_job_ne (s : State) {e f : EngineId} (j : Option Job) (h : f ≠ e) :
    (s.setJob e j).job f = s.job f := by
  rw [State.setJob_job, if_neg h]

/-- The view of a terminal through its record is all a state shows of the table. -/
theorem State.term_congr {s v : State} (h : v.terms = s.terms) (u : TermId) : v.term u = s.term u := by
  unfold State.term; rw [h]

theorem State.job_congr {s v : State} (h : v.engines = s.engines) (e : EngineId) : v.job e = s.job e := by
  unfold State.job; rw [h]

theorem State.poll_congr {s v : State} (h : v.polls = s.polls) (k : PollTag) : v.poll k = s.poll k := by
  unfold State.poll; rw [h]

/-! ### Transitions -/

/-- A record after the transition of R6 (R4). -/
def TermRec.transit (r : TermRec) (a b : TermState) : TermRec :=
  if r.state = a then { r with state := b, backoff := if a = .backoff then 0 else r.backoff } else r

theorem State.transition_term_eq (s : State) (t u : TermId) (a b : TermState) :
    (s.transition t a b).term u = if u = t then (s.term u).transit a b else s.term u := by
  rw [State.transition_term]
  by_cases hu : u = t
  · subst hu
    by_cases ha : (s.term u).state = a <;> simp [TermRec.transit, ha]
  · simp [hu]

/-- A transition from the state the terminal is in writes its record and its mark (R6, R7). -/
theorem State.transition_of_state (s : State) (t : TermId) (a b : TermState) (h : (s.term t).state = a) :
    s.transition t a b =
      (s.setTerm t { s.term t with state := b, backoff := if a = .backoff then 0 else (s.term t).backoff }).mark t := by
  unfold State.transition
  rw [if_pos h]

/-! ### Joining the queue with a new record -/

/-- Terminal `t` takes the record `r`, is marked, and joins the queue (R7, R74). -/
def State.rejoin (s : State) (t : TermId) (r : TermRec) : State := ((s.setTerm t r).mark t).join t

/-- A record written, then a transition into QUEUED and the join. -/
theorem State.join_transition_setTerm (s : State) (t : TermId) (r : TermRec) (a : TermState) (h : r.state = a) :
    ((s.setTerm t r).transition t a .queued).join t =
      s.rejoin t { r with state := .queued, backoff := if a = .backoff then 0 else r.backoff } := by
  rw [State.transition_of_state _ _ _ _ (by simpa using h)]
  simp [State.rejoin]

theorem State.mark_setTerm (s : State) (t : TermId) (r : TermRec) : (s.mark t).setTerm t r = (s.setTerm t r).mark t := rfl

/-- A transition into QUEUED, a write to the record that has made it, and the join. -/
theorem State.join_setTerm_transition (s : State) (t : TermId) (r : TermRec) (a : TermState)
    (h : (s.term t).state = a) : ((s.transition t a .queued).setTerm t r).join t = s.rejoin t r := by
  rw [State.transition_of_state _ _ _ _ h, State.mark_setTerm, State.setTerm_setTerm]
  rfl

@[simp] theorem State.rejoin_kept (s : State) (t : TermId) (r : TermRec) : (s.rejoin t r).kept = s.kept := by
  simp [State.rejoin]

@[simp] theorem State.rejoin_params (s : State) (t : TermId) (r : TermRec) : (s.rejoin t r).params = s.params :=
  kept_params (s.rejoin_kept t r)

theorem State.rejoin_term (s : State) (t u : TermId) (r : TermRec) :
    (s.rejoin t r).term u = if u = t then r else s.term u := by
  rw [State.rejoin, State.term_congr (State.join_fields _ t).2.1, State.mark_term, State.setTerm_term]

theorem State.rejoin_stack (s : State) (t : TermId) (r : TermRec) : (s.rejoin t r).stack = s.stack :=
  (State.join_fields _ t).2.2.2.1

theorem State.rejoin_engines (s : State) (t : TermId) (r : TermRec) : (s.rejoin t r).engines = s.engines :=
  (State.join_fields _ t).2.2.2.2.1

theorem State.rejoin_queue (s : State) (t : TermId) (r : TermRec) :
    (s.rejoin t r).queue = ((s.setTerm t r).joinEnd t).queue :=
  (State.join_fields _ t).1

theorem State.rejoin_queue_perm (s : State) (t : TermId) (r : TermRec) :
    (s.rejoin t r).queue.Perm (t :: s.queue) := by
  rw [State.rejoin_queue]
  exact State.joinEnd_perm (s.setTerm t r) t

/-! ### Power commands in a record -/

@[simp] theorem TermRec.completed_state (r : TermRec) (n : FrameNo) : (r.completed n).state = r.state := by
  unfold TermRec.completed TermRec.effective
  split <;> [split; skip] <;> rfl

@[simp] theorem TermRec.issueValue_le (r : TermRec) (v : Nat) : r.issueValue v ≤ r.pmax := by
  unfold TermRec.issueValue; rw [clampNat_eq _ _ _ (Nat.zero_le _)]; omega

@[simp] theorem State.complete_term_self (s : State) (t : TermId) :
    (s.complete t).term t = (s.term t).completed s.lastFrame := by
  rw [State.complete_term, if_pos rfl]

/-! ### Rewrites: a record that stays in its place -/

/-- One write to the record of a terminal that stays in its state, its class and its group: each constructor is a write
the model makes. The parameters in force bound the hold-off. -/
inductive TermRec.Rewrite (p : SectorParams) (r : TermRec) : TermRec → Prop
  /-- The pending command is in force (R57, R61). -/
  | effective : Rewrite p r r.effective
  /-- The ambiguity window is opened, moved or closed (R57, R59, R61). -/
  | window (f : Option FrameNo) : Rewrite p r { r with ambigUntil := f }
  /-- A command is issued (R55, R56). -/
  | issued (v : Nat) (f : FrameNo) (h : v ≤ r.pmax) : Rewrite p r (r.issued v f)
  | profiles (up down : Nat) (hu : up = r.up ∨ up ≤ 7) (hd : down = r.down ∨ down ≤ 7) :
      Rewrite p r { r with up := up, down := down }
  | fade (n : Nat) (h : n ≤ 240) : Rewrite p r { r with fade := n }
  | misses (n : Nat) (h : n ≤ 15) : Rewrite p r { r with missCount := n }
  /-- The hold-off is loaded or counts down (R51). -/
  | holdOff (n : Nat) (h : n = p.holdOffLoad ∨ n ≤ r.holdOff) : Rewrite p r { r with holdOff := n }
  | found (n : Nat) (h : n ≤ r.pmax) : Rewrite p r { r with foundPower := some n }
  /-- The marks of a loss are taken back at the hand-back (R53). -/
  | recovered : Rewrite p r { r with lossPower := none, lostAt := none, lossReason := none }
  /-- Six of the seven values of AMEND (R13); the class is R14's. -/
  | values (v : Provisioned) : Rewrite p r (r.withValues { v.clamped with cls := r.cls })

/-- Any number of rewrites. -/
def TermRec.Rewrites (p : SectorParams) : TermRec → TermRec → Prop := Relation.ReflTransGen (TermRec.Rewrite p)

namespace TermRec.Rewrites

variable {p : SectorParams} {r r' r'' : TermRec}

theorem refl : Rewrites p r r := Relation.ReflTransGen.refl

theorem one (h : r.Rewrite p r') : Rewrites p r r' := Relation.ReflTransGen.single h

theorem trans (h : Rewrites p r r') (h' : Rewrites p r' r'') : Rewrites p r r'' := Relation.ReflTransGen.trans h h'

theorem snd (h : Rewrites p r r') (h' : r'.Rewrite p r'') : Rewrites p r r'' := h.trans (.one h')

/-- A property of records that every rewrite keeps is kept by any number of them. -/
theorem keeps {Q : TermRec → Prop} (hQ : ∀ x y, TermRec.Rewrite p x y → Q x → Q y) (h : Rewrites p r r') (hr : Q r) :
    Q r' := by
  induction h with
  | refl => exact hr
  | tail _ hstep ih => exact hQ _ _ hstep ih

theorem completed (n : FrameNo) : Rewrites p r (r.completed n) := by
  unfold TermRec.completed
  split
  · exact .one .effective
  · exact .refl

theorem windowClosed (n : FrameNo) : Rewrites p r (r.windowClosed n) := by
  unfold TermRec.windowClosed
  split
  · exact .one (.window none)
  · exact .refl

theorem powerMark (slip : Bool) (n : FrameNo) : Rewrites p r (r.powerMark slip n) := by
  unfold TermRec.powerMark
  split
  · exact (one .effective).snd (.window none)
  · exact (completed n).trans (windowClosed n)

theorem superseded (v : Nat) (f : FrameNo) : Rewrites p r (r.superseded (r.issueValue v) f) :=
  (one (.issued _ f (r.issueValue_le v))).snd (.window _)

end TermRec.Rewrites

/-- A rewrite leaves the place of a record: its state, class, heard flag and backoff (R6, R73). -/
theorem TermRec.Rewrite.place {p : SectorParams} {r r' : TermRec} (h : r.Rewrite p r') :
    r'.state = r.state ∧ r'.cls = r.cls ∧ r'.heard = r.heard ∧ r'.backoff = r.backoff ∧ r'.retries = r.retries := by
  cases h with
  | effective => unfold TermRec.effective; split <;> simp
  | _ => exact ⟨rfl, rfl, rfl, rfl, rfl⟩

theorem TermRec.Rewrites.place {p : SectorParams} {r r' : TermRec} (h : TermRec.Rewrites p r r') :
    r'.state = r.state ∧ r'.cls = r.cls ∧ r'.heard = r.heard ∧ r'.backoff = r.backoff ∧ r'.retries = r.retries := by
  refine h.keeps (Q := fun x => x.state = r.state ∧ x.cls = r.cls ∧ x.heard = r.heard ∧ x.backoff = r.backoff ∧
    x.retries = r.retries) (fun x y hxy hx => ?_) ⟨rfl, rfl, rfl, rfl, rfl⟩
  obtain ⟨h1, h2, h3, h4, h5⟩ := hxy.place
  obtain ⟨g1, g2, g3, g4, g5⟩ := hx
  exact ⟨h1.trans g1, h2.trans g2, h3.trans g3, h4.trans g4, h5.trans g5⟩

/-- What the record of a terminal becomes that joins the queue from outside the collections (R12, R19, R20, R67, R76,
R103). -/
inductive TermRec.Joins (r : TermRec) : TermRec → Prop
  | provisioned (body : List Byte) (n : FrameNo) (h : r.state = .unused) :
      Joins r { provisionedRec body with state := .queued, lossReason := some .forced, lostAt := some n }
  | lost (reason : LossReason) (n : FrameNo) (h : r.state = .serving) :
      Joins r { r.lost reason n with state := .queued }
  | released (retries misses : Nat) (heard : Bool) (lostAt : Option FrameNo) (reason : Option LossReason)
      (h : r.state = .backoff ∨ r.state = .held ∨ r.state = .barred)
      (hr : retries = r.retries ∨ retries = 0) (hm : misses = r.missCount ∨ misses = 0) :
      Joins r { r with
        state := .queued
        backoff := if r.state = .backoff then 0 else r.backoff
        heard := heard, retries := retries, missCount := misses, lostAt := lostAt, lossReason := reason }

/-- The terminal that joins stood in no collection, and is QUEUED. -/
theorem TermRec.Joins.state {r r' : TermRec} (h : r.Joins r') :
    r'.state = .queued ∧ r.state ≠ .queued ∧ r.state ≠ .active ∧ r.state ≠ .suspended := by
  cases h with
  | provisioned _ _ h => simp [h]
  | lost _ _ h => simp [h]
  | released _ _ _ _ _ h => rcases h with h | h | h <;> simp [h]

end Sys2Proof.Machine
end

section
/-! What an event can do to the records and the collections, said once: the work of every event is a chain of acts, and a
law that every act keeps is kept by every step. An act is one write that moves no terminal, or one of the operations
that move a terminal from a collection to another. -/

namespace Sys2Proof.Machine

/-- The terminal an engine works on. -/
def State.worker (s : State) (e : EngineId) : Option TermId := (s.job e).map Job.term

/-- The terminals of the stack's contexts, top first. -/
def State.onStack (s : State) : List TermId := s.stack.map Context.term

/-- From `s` to `v` no terminal moves: the collections hold the same terminals, and each record is at most rewritten. -/
structure State.Quiet (s v : State) : Prop where
  queue : v.queue = s.queue
  onStack : v.onStack = s.onStack
  worker : ∀ e, v.worker e = s.worker e
  params : v.params = s.params
  ladder : v.ladder = s.ladder
  records : ∀ u, TermRec.Rewrites s.params (s.term u) (v.term u)

/-- The hand-back's move (R53): the terminal of engine `e` from ACTIVE to SERVING, the marks of its loss taken back. -/
def State.handOver (s : State) (e : EngineId) (t : TermId) : State :=
  let s := s.transition t .active .serving
  (s.setTerm t { s.term t with lossPower := none, lostAt := none, lossReason := none }).setJob e none

/-- One act of an event's work. -/
inductive State.Act (s : State) : State → Prop
  /-- No terminal moves. -/
  | quiet {v : State} (h : s.Quiet v) : Act s v
  /-- The power-on values (R169, R170). -/
  | reset {v : State} (ht : v.terms = State.reset.terms) (hq : v.queue = []) (hk : v.stack = [])
      (he : v.engines = State.reset.engines) (hp : v.params = .defaults) (hl : v.ladder = .defaults) : Act s v
  /-- SET SECTOR (R162). -/
  | sector (p : SectorParams) : Act s { s with params := p.clamped }
  /-- SET LADDER of an increasing ladder (R46). -/
  | ladder (body : List Byte) (h : (ladderAt body).increasing = true) : Act s { s with ladder := ladderAt body }
  /-- A grant of an idle engine to the queue head (R82). -/
  | grant (e : EngineId) (t : TermId) (rest : List TermId) (hq : s.queue = t :: rest) (he : s.job e = none) :
      Act s (s.grant e t)
  /-- A resume of the stack top on an idle engine (R83). -/
  | resume (e : EngineId) (c : Context) (below : List Context) (hk : s.stack = c :: below) (he : s.job e = none) :
      Act s (s.resume e c below)
  /-- A preemption (R86). -/
  | preempt (e : EngineId) (j : Job) (t : TermId) (rest : List TermId) (hq : s.queue = t :: rest) (he : s.job e = some j) :
      Act s (s.preempt e j t)
  /-- Entry into OUTAGE (R139, R140). -/
  | outage : Act s s.enterOutage
  /-- A terminal joins the queue from outside the collections (R74). -/
  | joins (t : TermId) (r : TermRec) (h : (s.term t).Joins r) : Act s (s.rejoin t r)
  /-- A QUEUED terminal moves to the end of the group its new class and heard flag give (R14, R76). -/
  | regroup (t : TermId) (cls : Nat) (heard : Bool) (hst : (s.term t).state = .queued)
      (hc : cls = (s.term t).cls ∨ cls ≤ 3) :
      Act s (((s.leaveQueue t).setTerm t { s.term t with cls := cls, heard := heard }).joinEnd t)
  /-- A new class of a terminal that is not QUEUED (R14). -/
  | reclass {v : State} (t : TermId) (cls : Nat) (hst : (s.term t).state ≠ .queued) (hc : cls ≤ 3)
      (ht : v.terms = (s.setTerm t { s.term t with cls := cls }).terms) (hq : v.queue = s.queue)
      (hk : v.onStack = s.onStack) (hw : ∀ e, v.worker e = s.worker e) (hp : v.params = s.params)
      (hl : v.ladder = s.ladder) : Act s v
  /-- Exhaustion of an engine's job (R101). -/
  | exhaust (e : EngineId) (j : Job) (he : s.worker e = some j.term) : Act s (s.exhaust e j)
  /-- The hand-back to SERVING (R53). -/
  | handOver (e : EngineId) (t : TermId) (he : s.worker e = some t) : Act s (s.handOver e t)
  /-- PROVISION entering as SERVING (R11). -/
  | serves (t : TermId) (body : List Byte) (hst : (s.term t).state = .unused) :
      Act s (s.setTerm t { provisionedRec body with
        state := .serving, up := upAt body, down := downAt body, holdOff := s.params.holdOffLoad })
  /-- RETIRE and BAR (R16, R17). -/
  | takesOut (t : TermId) (r : TermRec) (hst : (s.term t).state ≠ .unused)
      (hr : r = .powerOn ∨ r = { s.term t with state := .barred, heard := false, missCount := 0, backoff := 0 }) :
      Act s ((s.takeOut t).st.setTerm t r)

/-- A chain of acts. -/
def State.Acts : State → State → Prop := Relation.ReflTransGen State.Act

/-! ### Quiet changes -/

/-- Nothing that the acts speak of differs. -/
theorem State.Quiet.rest {s v : State} (ht : v.terms = s.terms) (hq : v.queue = s.queue) (hk : v.stack = s.stack)
    (he : v.engines = s.engines) (hp : v.params = s.params) (hl : v.ladder = s.ladder) : s.Quiet v where
  queue := hq
  onStack := congrArg (List.map Context.term) hk
  worker e := congrArg (Option.map Job.term) (State.job_congr he e)
  params := hp
  ladder := hl
  records u := by rw [State.term_congr ht]; exact .refl

theorem State.Quiet.write {s : State} {t : TermId} {r : TermRec} (h : TermRec.Rewrites s.params (s.term t) r) :
    s.Quiet (s.setTerm t r) where
  queue := rfl
  onStack := rfl
  worker _ := rfl
  params := rfl
  ladder := rfl
  records u := by
    rw [State.setTerm_term]
    split
    · next hu => exact hu ▸ h
    · exact .refl

theorem State.setJob_worker (s : State) (e f : EngineId) (j : Option Job) :
    (s.setJob e j).worker f = if f = e then j.map Job.term else s.worker f := by
  unfold State.worker
  rw [State.setJob_job]
  split <;> rfl

/-- An engine goes on working on its terminal. -/
theorem State.Quiet.rework {s : State} {e : EngineId} {j : Job} (h : s.worker e = some j.term) :
    s.Quiet (s.setJob e (some j)) where
  queue := rfl
  onStack := rfl
  worker f := by
    rw [State.setJob_worker]
    split
    · next hf => rw [hf, h]; rfl
    · rfl
  params := rfl
  ladder := rfl
  records _ := .refl

/-! ### Chains -/

namespace State.Acts

variable {s x v : State}

theorem refl : Acts s s := Relation.ReflTransGen.refl

theorem trans (h : Acts s x) (h' : Acts x v) : Acts s v := Relation.ReflTransGen.trans h h'

theorem act (h : Acts s x) (h' : x.Act v) : Acts s v := Relation.ReflTransGen.tail h h'

/-- A chain that ends with a change of fields no act speaks of. -/
theorem rest (h : Acts s x) (ht : v.terms = x.terms := by rfl) (hq : v.queue = x.queue := by rfl)
    (hk : v.stack = x.stack := by rfl) (he : v.engines = x.engines := by rfl) (hp : v.params = x.params := by rfl)
    (hl : v.ladder = x.ladder := by rfl) : Acts s v :=
  h.act (.quiet (.rest ht hq hk he hp hl))

theorem write {t : TermId} {r : TermRec} (h : Acts s x) (hr : TermRec.Rewrites x.params (x.term t) r) :
    Acts s (x.setTerm t r) :=
  h.act (.quiet (.write hr))

theorem rework {e : EngineId} {j : Job} (h : Acts s x) (he : x.worker e = some j.term) :
    Acts s (x.setJob e (some j)) :=
  h.act (.quiet (.rework he))

theorem send {m : OutMsg} (h : Acts s x) : Acts s (x.send m) := h.rest

theorem mark {t : TermId} (h : Acts s x) : Acts s (x.mark t) := h.rest

theorem complete {t : TermId} (h : Acts s x) : Acts s (x.complete t) := h.write (.completed _)

theorem setMode {m : Mode} (h : Acts s x) : Acts s (x.setMode m) := by
  unfold State.setMode
  split
  · exact h
  · exact h.rest

/-- A law that every act keeps is kept by a chain. -/
theorem keeps {P : State → Prop} (hP : ∀ a b, State.Act a b → P a → P b) (h : Acts s v) (hs : P s) : P v := by
  induction h with
  | refl => exact hs
  | tail _ hact ih => exact hP _ _ hact ih

end State.Acts

/-! ### Workers after the shared operations -/

theorem State.worker_congr {s v : State} (h : v.engines = s.engines) (e : EngineId) : v.worker e = s.worker e := by
  unfold State.worker; rw [State.job_congr h]

theorem State.worker_of_job {s : State} {e : EngineId} {j : Job} (h : s.job e = some j) : s.worker e = some j.term := by
  unfold State.worker; rw [h]; rfl

@[simp] theorem State.complete_worker (s : State) (t : TermId) (e : EngineId) : (s.complete t).worker e = s.worker e := rfl

@[simp] theorem State.setTerm_worker (s : State) (t : TermId) (r : TermRec) (e : EngineId) :
    (s.setTerm t r).worker e = s.worker e := rfl

@[simp] theorem State.send_worker (s : State) (m : OutMsg) (e : EngineId) : (s.send m).worker e = s.worker e := rfl

@[simp] theorem State.transition_worker (s : State) (t : TermId) (a b : TermState) (e : EngineId) :
    (s.transition t a b).worker e = s.worker e := State.worker_congr (s.transition_engines t a b) e

@[simp] theorem State.writeProfiles_worker (s : State) (t : TermId) (up down : Nat) (e : EngineId) :
    (s.writeProfiles t up down).worker e = s.worker e := by
  unfold State.worker; rw [State.writeProfiles_job]

/-! ### Power commands -/

/-- The word to the engine of an admitted terminal moves no terminal (R28, R30). -/
theorem State.noteCommand_quiet (s : State) (t : TermId) (f : FrameNo) : s.Quiet (s.noteCommand t f) := by
  have hrest : s.Quiet s := .rest rfl rfl rfl rfl rfl rfl
  unfold State.noteCommand
  split
  · exact hrest
  · split
    · exact hrest
    · next hj =>
      split
      · exact .rework (State.worker_of_job hj :)
      · exact .rework (State.worker_of_job hj :)
      · exact hrest

@[simp] theorem State.noteCommand_worker (s : State) (t : TermId) (f : FrameNo) (e : EngineId) :
    (s.noteCommand t f).worker e = s.worker e := (s.noteCommand_quiet t f).worker e

namespace State.Acts

variable {s x : State}

theorem noteCommand {t : TermId} {f : FrameNo} (h : Acts s x) : Acts s (x.noteCommand t f) :=
  h.act (.quiet (x.noteCommand_quiet t f))

theorem requestPower {t : TermId} {v : Nat} (h : Acts s x) : Acts s (x.requestPower t v) := by
  unfold State.requestPower
  dsimp only
  split
  · exact h.complete
  · split
    · exact h.complete
    · exact (h.complete.write (.one (.issued _ _ (TermRec.issueValue_le _ _)))).send.noteCommand

theorem clampPower {t : TermId} (h : Acts s x) : Acts s (x.clampPower t) :=
  (h.complete.write (.superseded _ _)).send.noteCommand

theorem writeProfiles {t : TermId} {up down : Nat} (h : Acts s x) (hu : up = (x.term t).up ∨ up ≤ 7)
    (hd : down = (x.term t).down ∨ down ≤ 7) : Acts s (x.writeProfiles t up down) := by
  have hw : Acts s (x.setTerm t { x.term t with up := up, down := down }) := h.write (.one (.profiles _ _ hu hd))
  unfold State.writeProfiles
  dsimp only
  split
  · exact hw
  · exact hw.mark

theorem admitTerm {t : TermId} {v : Nat} (h : Acts s x) : Acts s (x.admitTerm t v) :=
  ((h.complete.write (.superseded _ _)).writeProfiles (.inr (Nat.zero_le _)) (.inr (Nat.zero_le _))).send

end State.Acts

@[simp] theorem State.requestPower_worker (s : State) (t : TermId) (v : Nat) (e : EngineId) :
    (s.requestPower t v).worker e = s.worker e := by
  unfold State.requestPower
  dsimp only
  split
  · rfl
  · split
    · rfl
    · simp

@[simp] theorem State.admitTerm_worker (s : State) (t : TermId) (v : Nat) (e : EngineId) :
    (s.admitTerm t v).worker e = s.worker e := by
  unfold State.worker; rw [(s.admitTerm_spec t v).2.2.2]

/-! ### The arbiter -/

/-- The victim is an engine's job, in a phase that searches (R84, R85). -/
theorem State.victim_some {s : State} {e : EngineId} {j : Job} (h : s.victim = some (e, j)) :
    s.job e = some j ∧ j.phase.searching = true := by
  have hinv : ∀ b, s.victim = some b → s.job b.1 = some b.2 ∧ b.2.phase.searching = true := by
    unfold State.victim
    refine List.foldlRecOn (motive := fun o => ∀ b, o = some b → s.job b.1 = some b.2 ∧ b.2.phase.searching = true)
      allEngines s.victimStep ?_ (fun best hbest f _ => ?_)
    · nofun
    unfold State.victimStep
    split
    · exact hbest
    · next i hi =>
      split
      · next hs =>
        split
        · rintro _ ⟨⟩; exact ⟨hi, hs⟩
        · split
          · rintro _ ⟨⟩; exact ⟨hi, hs⟩
          · exact hbest
      · exact hbest
  exact hinv (e, j) h

/-- What a wanted preemption rests on (R84). -/
theorem State.preemptWanted_some {s : State} {e : EngineId} {j : Job} {t : TermId}
    (h : s.preemptWanted = some (e, j, t)) :
    (∀ f, (s.job f).isSome = true) ∧ (∃ rest, s.queue = t :: rest) ∧ s.victim = some (e, j) ∧
      (s.term t).cls < j.cls := by
  unfold State.preemptWanted at h
  split at h
  · next hall =>
    split at h
    · next hq hv =>
      split at h
      · next hlt =>
        obtain ⟨rfl, rfl, rfl⟩ : _ ∧ _ ∧ _ := by simpa using h
        refine ⟨fun f => List.all_eq_true.mp hall f ?_, ⟨_, hq⟩, hv, hlt⟩
        revert f; decide
      · cases h
    · cases h
  · cases h

namespace State.Acts

variable {s x : State}

theorem fillEngine {e : EngineId} (h : Acts s x) : Acts s (x.fillEngine e) := by
  unfold State.fillEngine
  split
  · exact h
  · next he =>
    have he : x.job e = none := by simpa using he
    split
    · exact h
    · next hq => exact h.act (.grant _ _ _ hq he)
    · next hk _ => exact h.act (.resume _ _ _ hk he)
    · next hk hq =>
      split
      · exact h.act (.grant _ _ _ hq he)
      · exact h.act (.resume _ _ _ hk he)

theorem fill (h : Acts s x) : Acts s x.fill := h.fillEngine.fillEngine.fillEngine.fillEngine

theorem preemptLoop {n : Nat} (h : Acts s x) : Acts s (Machine.preemptLoop n x) := by
  induction n generalizing x with
  | zero => exact h
  | succ n ih =>
    unfold Machine.preemptLoop
    split
    · exact h
    · next hw =>
      obtain ⟨-, ⟨rest, hq⟩, hv, -⟩ := State.preemptWanted_some hw
      split
      · exact ih (h.act (.preempt _ _ _ rest hq (State.victim_some hv).1))
      · exact h

theorem evaluate (h : Acts s x) : Acts s x.evaluate := by
  unfold State.evaluate
  split
  · exact h
  · exact h.fill.preemptLoop

/-- The end of an event (R80, R89). -/
theorem close {w : Work} (h : Acts s w.st) : Acts s w.close := by
  unfold Work.close
  split
  · exact h.evaluate.rest
  · exact h.rest

theorem trigger (h : Acts s x) : Acts s (Work.trigger x).st := h

theorem checkClear {w : Work} (h : Acts s w.st) : Acts s w.checkClear.st := by
  unfold Work.checkClear
  split
  · exact h
  · exact h.setMode

theorem checkClearIf {w : Work} {left : Bool} (h : Acts s w.st) : Acts s (w.checkClearIf left).st := by
  unfold Work.checkClearIf
  split
  · exact h.checkClear
  · exact h

end State.Acts

/-! ### Joins and losses -/

/-- A loss (R67): the lost record joins the queue, then the loss is offered to the window unless it is FORCED. -/
theorem State.lose_eq (s : State) (t : TermId) (reason : LossReason) (h : (s.term t).state = .serving) :
    s.lose t reason =
      (let v := ((s.complete t).send (.withdraw t)).rejoin t
          { ((s.term t).completed s.lastFrame).lost reason s.lastFrame with state := .queued }
       if reason = .forced then v else v.offerLoss) := by
  unfold State.lose
  dsimp only
  rw [State.send_term, State.complete_term_self, State.send_lastFrame, State.complete_lastFrame,
    State.join_transition_setTerm _ _ _ _ (show (((s.term t).completed s.lastFrame).lost reason s.lastFrame).state = _ by
      simpa [TermRec.lost] using h)]
  rfl

namespace State.Acts

variable {s x : State}

theorem offerLoss (h : Acts s x) : Acts s x.offerLoss := by
  unfold State.offerLoss
  split
  · exact h
  · dsimp only
    split
    · exact (h.rest).act .outage
    · exact h.rest

theorem lose {t : TermId} {reason : LossReason} (h : Acts s x) (hst : (x.term t).state = .serving) :
    Acts s (x.lose t reason) := by
  rw [State.lose_eq _ _ _ hst]
  have hjoin : ((x.complete t).send (.withdraw t)).Act (((x.complete t).send (.withdraw t)).rejoin t
      { ((x.term t).completed x.lastFrame).lost reason x.lastFrame with state := .queued }) := by
    refine .joins t _ ?_
    rw [State.send_term, State.complete_term_self]
    exact .lost reason _ (by simpa using hst)
  dsimp only
  split
  · exact h.complete.send.act hjoin
  · exact (h.complete.send.act hjoin).offerLoss

end State.Acts

/-! ### The engines -/

@[simp] theorem Job.raiseLimit_term (j : Job) (c : Bool) : (j.raiseLimit c).term = j.term := by
  unfold Job.raiseLimit; split <;> rfl

@[simp] theorem Job.beginGate_term (j : Job) (r : TermRec) : (j.beginGate r).term = j.term := rfl

theorem smooth_le (alpha fade sample : Nat) : smooth alpha fade sample ≤ 240 := by
  unfold smooth; rw [clampInt_eq _ _ _ (by decide)]; omega

theorem Gate.sample_le (g : Gate) (refLevel : Int) : g.sample refLevel ≤ 240 := by
  unfold Gate.sample fadeSample; rw [clampInt_eq _ _ _ (by decide)]; omega

/-- A profile found on the ladder is one of 0..7. -/
theorem Ladder.highest_getD_le (l : Ladder) (h : Nat) (margin : Int) : (l.highest h margin).getD 0 ≤ 7 := by
  unfold Ladder.highest
  cases hf : List.find? _ [7, 6, 5, 4, 3, 2, 1, 0] with
  | none => exact Nat.zero_le _
  | some p =>
    have hp : ∀ q ∈ [7, 6, 5, 4, 3, 2, 1, 0], q ≤ 7 := by decide
    exact hp p (List.mem_of_find?_eq_some hf)

namespace State.Acts

variable {s x : State} {e : EngineId} {j : Job}

theorem exhaust (h : Acts s x) (he : x.worker e = some j.term) : Acts s (x.exhaust e j) := h.act (.exhaust e j he)

theorem returnToFine {power : Nat} (h : Acts s x) (he : x.worker e = some j.term) :
    Acts s (x.returnToFine e j power).st := by
  unfold State.returnToFine
  dsimp only
  split
  · exact h.exhaust (by simpa using he)
  · exact h.send.rework (by simpa using he)

theorem enterVerify (h : Acts s x) (he : x.worker e = some j.term) : Acts s (x.enterVerify e j) := h.rework he

theorem beginSettle {f : FrameNo} (h : Acts s x) (he : x.worker e = some j.term) : Acts s (x.beginSettle e j f) := by
  unfold State.beginSettle
  dsimp only
  split
  · exact h.enterVerify he
  · exact h.rework he

theorem endConfirm {p fu : Nat} (h : Acts s x) (he : x.worker e = some j.term) (hfu : fu ≤ 240) :
    Acts s (x.endConfirm e j p fu) := by
  have hfound : Acts s (x.setTerm j.term
      { x.term j.term with foundPower := some (clampNat 0 (x.term j.term).pmax p), fade := fu }) :=
    h.write ((TermRec.Rewrites.one (.found _ (TermRec.issueValue_le _ p))).snd (.fade fu hfu))
  exact (hfound.admitTerm).beginSettle (by simpa using he)

theorem rampStep {target step d : Nat} {dir : StepDir} (h : Acts s x) (he : x.worker e = some j.term) :
    Acts s (x.rampStep e j target step dir d) := by
  unfold State.rampStep
  dsimp only
  split
  · exact h.requestPower.enterVerify (by simpa using he)
  · exact h.requestPower.rework (by simpa using he)

theorem rampTick {rp : Ramp} (h : Acts s x) (he : x.worker e = some j.term) : Acts s (x.rampTick e j rp) := by
  unfold State.rampTick
  dsimp only
  split
  · exact h.enterVerify he
  · split
    · exact h.complete.rework (by simpa using he)
    · exact h.complete.rampStep (by simpa using he)

theorem settleReport {b : FrameNo} {o : Option Response} (h : Acts s x) (he : x.worker e = some j.term) :
    Acts s (x.settleReport e j b o).st := by
  unfold State.settleReport
  split
  · exact h
  · split
    · exact h.rework he
    · dsimp only
      split
      · exact h.returnToFine he
      · exact h.rework he

theorem handBack {t : TermId} {up down : Nat} (h : Acts s x) (he : x.worker e = some t) (hu : up ≤ 7) (hd : down ≤ 7) :
    Acts s (x.handBack e t up down).st := by
  have hprep := (((h.writeProfiles (t := t) (.inr hu) (.inr hd)).send (m := .profile t up down)).write (t := t)
    ((TermRec.Rewrites.one (.holdOff _ (.inl rfl))).snd (.misses 0 (Nat.zero_le _))))
  exact (hprep.act (.handOver e t (by simpa using he))).checkClear (w := Work.trigger _)

theorem verifyAccepted {g : Gate} (h : Acts s x) (he : x.worker e = some j.term) :
    Acts s (x.verifyAccepted e j g).st := by
  have hfade : Acts s (x.setTerm j.term { x.term j.term with
      fade := smooth x.params.alpha (x.term j.term).fade (g.sample (x.term j.term).refLevel) }) :=
    h.write (.one (.fade _ (smooth_le _ _ _)))
  unfold State.verifyAccepted
  dsimp only
  split
  · exact hfade.exhaust he
  · exact hfade.handBack he (Ladder.highest_getD_le _ _ _) (Ladder.highest_getD_le _ _ _)

theorem judgeVerify {g : Gate} (h : Acts s x) (he : x.worker e = some j.term) : Acts s (x.judgeVerify e j g).st := by
  unfold State.judgeVerify
  split
  · exact h.verifyAccepted he
  · exact h.returnToFine he

theorem verifyReport {b : FrameNo} {o : Option Response} (h : Acts s x) (he : x.worker e = some j.term) :
    Acts s (x.verifyReport e j b o).st := by
  unfold State.verifyReport
  split
  · exact h
  · split
    · exact h
    · dsimp only
      split
      · exact h.judgeVerify he
      · exact h.rework he

theorem searchAccepted {p fu : Nat} (h : Acts s x) (he : x.worker e = some j.term) (hfu : fu ≤ 240) :
    Acts s (x.searchAccepted e j p fu) := by
  unfold State.searchAccepted
  dsimp only
  generalize (if j.phase = .confirm then j.confirmLeft - 1 else x.params.confirmCount - 1) = left
  split
  · exact h.endConfirm he hfu
  · exact h.rework he

theorem searchMissed {g : Gate} {v : Verdict} (h : Acts s x) (he : x.worker e = some j.term) :
    Acts s (x.searchMissed e j g v).st := by
  unfold State.searchMissed
  dsimp only
  split
  · exact h.exhaust (by simpa using he)
  · exact h.rework (by simpa using he)

theorem judgeSearch {g : Gate} (h : Acts s x) (he : x.worker e = some j.term) : Acts s (x.judgeSearch e j g).st := by
  unfold State.judgeSearch
  split
  · exact h.searchAccepted he (Gate.sample_le _ _)
  · exact h.searchMissed he

theorem handOutcome {o : Option Response} (h : Acts s x) (he : x.worker e = some j.term) :
    Acts s (x.handOutcome e j o).st := by
  unfold State.handOutcome
  dsimp only
  split
  · exact h.rework he
  · split
    · split
      · exact h.judgeSearch he
      · exact h.rework he
    · exact h.rework he

end State.Acts

end Sys2Proof.Machine
end

section
/-! The work of traffic, of polls and of the ends of operations is a chain of acts. -/

namespace Sys2Proof.Machine

/-! ### Traffic -/

/-- The profile a serving verdict gives is the present one or lies on the ladder (R48, R49). -/
theorem serveDirection_cases (l : Ladder) (c : Nat) (margin : Int) (holdOff : Nat) :
    (serveDirection l c margin holdOff).1 = c ∨ (serveDirection l c margin holdOff).1 ≤ 7 := by
  unfold serveDirection
  split
  · exact .inr (l.highest_getD_le 0 margin)
  · split
    · next hup =>
      obtain ⟨-, p, hp, hlt, -⟩ : holdOff = 0 ∧ ∃ p, p ∈ [0, 1, 2, 3, 4, 5, 6, 7] ∧ c < p ∧ _ := by
        simpa only [mayUpgrade, Bool.and_eq_true, decide_eq_true_eq, List.any_eq_true] using hup
      have hle : ∀ q ∈ [0, 1, 2, 3, 4, 5, 6, 7], q ≤ 7 := by decide
      exact .inr (Nat.le_trans hlt (hle p hp))
    · exact .inl rfl

/-- The pair of a serving verdict: each profile is the present one or lies on the ladder (R50). -/
theorem servingVerdict_pair {l : Ladder} {r : TermRec} {md mu : Int} {up down : Nat} {upgraded : Bool}
    (h : servingVerdict l r md mu = .pair up down upgraded) : (up = r.up ∨ up ≤ 7) ∧ (down = r.down ∨ down ≤ 7) := by
  unfold servingVerdict at h
  split at h
  · cases h
  · obtain ⟨rfl, rfl, -⟩ := ServingVerdict.pair.inj h
    exact ⟨serveDirection_cases .., serveDirection_cases ..⟩

namespace State.Acts

variable {s x : State} {t : TermId}

theorem trackPower {target : Nat} (h : Acts s x) : Acts s (x.trackPower t target) := by
  unfold State.trackPower
  dsimp only
  split
  · exact h
  · split
    · exact h.requestPower
    · exact h.requestPower

theorem takePair {up down : Nat} {upgraded : Bool} (h : Acts s x) (hu : up = (x.term t).up ∨ up ≤ 7)
    (hd : down = (x.term t).down ∨ down ≤ 7) : Acts s (x.takePair t up down upgraded) := by
  have hload : Acts s (x.setTerm t { x.term t with holdOff := x.params.holdOffLoad }) :=
    h.write (.one (.holdOff _ (.inl rfl)))
  unfold State.takePair
  dsimp only
  cases upgraded
  · split
    · exact h
    · exact (h.writeProfiles hu hd).send
  · split
    · exact hload
    · exact (hload.writeProfiles (by simpa using hu) (by simpa using hd)).send

theorem sampleBurst {b : FrameNo} {m : Response} (h : Acts s x) (hst : (x.term t).state = .serving) :
    Acts s (x.sampleBurst t b m).st := by
  unfold State.sampleBurst
  dsimp only
  rw [State.complete_term_self]
  have hfade := fun n hn => (h.complete (t := t)).write (t := t)
    (r := { (x.term t).completed x.lastFrame with fade := n })
    (by rw [State.complete_term_self]; exact .one (.fade n hn))
  split
  · exact .trigger ((hfade _ (smooth_le _ _ _)).lose (by simpa using hst))
  · next hv =>
    obtain ⟨hu, hd⟩ := servingVerdict_pair hv
    exact ((hfade _ (smooth_le _ _ _)).takePair (by simpa using hu) (by simpa using hd)).trackPower

theorem acceptedBurst {b : FrameNo} {m : Response} (h : Acts s x) (hst : (x.term t).state = .serving) :
    Acts s (x.acceptedBurst t b m).st := by
  have hw : Acts s (x.setTerm t { x.term t with missCount := 0 }) := h.write (.one (.misses 0 (Nat.zero_le _)))
  unfold State.acceptedBurst
  dsimp only
  split
  · exact hw
  · exact hw.sampleBurst (by simpa using hst)

theorem missedTraffic (h : Acts s x) (hst : (x.term t).state = .serving) : Acts s (x.missedTraffic t).st := by
  have hw : Acts s (x.setTerm t { x.term t with missCount := min ((x.term t).missCount + 1) 15 }) :=
    h.write (.one (.misses _ (Nat.min_le_right _ _)))
  unfold State.missedTraffic
  dsimp only
  split
  · exact .trigger (hw.lose (by simpa using hst))
  · exact hw

theorem trackReport {b : FrameNo} {o : Option Response} (h : Acts s x) (hst : (x.term t).state = .serving) :
    Acts s (x.trackReport t b o).st := by
  unfold State.trackReport
  split
  · split
    · exact h.acceptedBurst hst
    · exact h.missedTraffic hst
  · exact h.missedTraffic hst

theorem routeReport {b : FrameNo} {o : Option Response} (h : Acts s x) : Acts s (x.routeReport t b o).st := by
  unfold State.routeReport
  split
  · next hst => exact h.trackReport hst
  · split
    · exact h
    · split
      · exact h
      · next hj =>
        split
        · exact h.settleReport (State.worker_of_job hj)
        · exact h.verifyReport (State.worker_of_job hj)
        · exact h
  · exact h

theorem takeReport {terminal : Byte} {b : FrameNo} {o : Option Response} (h : Acts s x) :
    Acts s (x.takeReport terminal b o) := by
  unfold State.takeReport
  split
  · exact h
  · split
    · exact h
    · exact h.routeReport.close

/-! ### Polls -/

/-- A released terminal joins the queue: out of BACKOFF or HELD, heard or not, with its retries or none. -/
theorem release {a : TermState} {heard : Bool} {retries : Nat} (h : Acts s x) (hst : (x.term t).state = a)
    (ha : a = .backoff ∨ a = .held) (hr : retries = ((x.transition t a .queued).term t).retries ∨ retries = 0) :
    Acts s (((x.transition t a .queued).setTerm t
      { (x.transition t a .queued).term t with heard := heard, retries := retries }).join t) := by
  rw [State.join_setTerm_transition _ _ _ _ hst]
  rw [State.transition_term_eq, if_pos rfl, TermRec.transit, if_pos hst] at hr ⊢
  subst hst
  exact h.act (.joins t _ (.released retries _ heard _ _ (ha.imp_right .inl) hr (.inl rfl)))

theorem hear (h : Acts s x) : Acts s (x.hear t).st := by
  unfold State.hear
  split
  · next hst =>
    split
    · exact h
    · exact h.act (.regroup t (x.term t).cls true hst (.inl rfl))
  · next hst => exact h.release hst (.inl rfl) (.inl rfl)
  · next hst => exact h.release hst (.inr rfl) (.inr rfl)
  · exact h

theorem endOutage (h : Acts s x) : Acts s x.endOutage.st := by
  unfold State.endOutage
  split
  · exact h.setMode
  · exact h

theorem sweepOutcome {p : PollEntry} {o : Option Response} (h : Acts s x) : Acts s (x.sweepOutcome p o).st := by
  unfold State.sweepOutcome
  split
  · exact h
  · split
    · exact h
    · split
      · exact h
      · exact h.hear.endOutage

theorem engineOutcome {p : PollEntry} {e : EngineId} {serial : Serial} {o : Option Response} (h : Acts s x) :
    Acts s (x.engineOutcome p e serial o).st := by
  unfold State.engineOutcome
  split
  · exact h
  · split
    · exact h
    · next hj =>
      split
      · exact h.handOutcome (State.worker_of_job hj)
      · exact h

theorem takeOutcome {k : PollTag} {o : Option Response} (h : Acts s x) : Acts s (x.takeOutcome k o).st := by
  unfold State.takeOutcome
  split
  · exact h
  · have hfree : Acts s (x.setPoll k none) := h.rest
    unfold State.matchOutcome
    split
    · exact hfree.engineOutcome
    · exact hfree.sweepOutcome

theorem takePollResult {tag outcome : Byte} {level : BitVec 16} {errors : Byte} (h : Acts s x) :
    Acts s (x.takePollResult tag outcome level errors) := by
  unfold State.takePollResult
  split
  · split
    · exact h
    · exact h.takeOutcome.close
  · exact h

/-! ### The slots of a mark -/

theorem pollEngine {e : EngineId} {slot : Nat} (h : Acts s x) : Acts s (x.pollEngine e slot) := by
  unfold State.pollEngine
  split
  · next j k hj _ =>
    have hw : x.worker e = some j.term := State.worker_of_job hj
    exact State.Acts.rest (x := x.setJob e (some { j with pollInFlight := some k })) (h.rework hw)
  · exact h

theorem pollEngines {es : List EngineId} {slot : Nat} (h : Acts s x) : Acts s (x.pollEngines slot es) := by
  induction es generalizing x slot with
  | nil => exact h
  | cons e es ih => exact ih h.pollEngine

theorem pollSweep {n slot : Nat} (h : Acts s x) : Acts s (x.pollSweep slot n) := by
  induction n generalizing x slot with
  | zero => exact h
  | succ n ih =>
    unfold State.pollSweep
    split
    · exact ih h.rest
    · exact h

theorem allocate {slots : Nat} (h : Acts s x) : Acts s (x.allocate slots) := by
  unfold State.allocate
  dsimp only
  split
  · exact h.pollEngines.pollSweep
  · exact h.pollEngines

/-! ### Ends of operations -/

theorem expireBackoff (h : Acts s x) : Acts s (x.expireBackoff t).st := by
  unfold State.expireBackoff
  split
  · next hover =>
    have hst : (x.term t).state = .backoff := by
      simp only [State.backoffOver, Bool.and_eq_true, decide_eq_true_eq] at hover; exact hover.1
    exact h.release hst (.inl rfl) (.inl rfl)
  · exact h

theorem tickIfDue {e : EngineId} (h : Acts s x) : Acts s (x.tickIfDue e) := by
  unfold State.tickIfDue
  split
  · exact h
  · next hj =>
    split
    · split
      · exact h.rampTick (State.worker_of_job hj)
      · exact h
    · exact h

theorem timeoutIfDue {k : PollTag} (h : Acts s x) : Acts s (x.timeoutIfDue k).st := by
  unfold State.timeoutIfDue
  split
  · exact h.takeOutcome
  · exact h

/-- Work repeated over a list, each piece a chain of acts. -/
theorem foldl_andThen {α : Type} {f : State → α → Work} (hf : ∀ {y a}, Acts s y → Acts s (f y a).st) (l : List α)
    {w : Work} (h : Acts s w.st) : Acts s (l.foldl (fun w a => w.andThen (fun s => f s a)) w).st := by
  induction l generalizing w with
  | nil => exact h
  | cons a l ih => exact ih (hf h)

theorem foldl {α : Type} {f : State → α → State} (hf : ∀ {y a}, Acts s y → Acts s (f y a)) (l : List α)
    (h : Acts s x) : Acts s (l.foldl f x) := by
  induction l generalizing x with
  | nil => exact h
  | cons a l ih => exact ih (hf h)

end State.Acts

end Sys2Proof.Machine
end

section
/-! What the requests on a terminal come to, as one write each, and that the work of every request is a chain of acts. -/

namespace Sys2Proof.Machine

/-! ### The requests on a terminal -/

/-- The record PROVISION as SERVING creates (R10, R11). -/
def servingRec (body : List Byte) (holdOff : Nat) : TermRec :=
  { provisionedRec body with state := .serving, up := upAt body, down := downAt body, holdOff := holdOff }

/-- The record PROVISION as RESTORE creates (R10, R12). -/
def restoreRec (body : List Byte) (n : FrameNo) : TermRec :=
  { provisionedRec body with state := .queued, lossReason := some .forced, lostAt := some n }

/-- The record of an UNBARRED terminal (R19). -/
def TermRec.unbarred (r : TermRec) (n : FrameNo) : TermRec :=
  { r with state := .queued, lossReason := some .forced, lostAt := some n, retries := 0, heard := false, missCount := 0 }

/-- The record of a terminal RESTORE NOW takes out of BACKOFF or HELD (R20). -/
def TermRec.requeued (r : TermRec) : TermRec :=
  { r with state := .queued, heard := false, backoff := if r.state = .backoff then 0 else r.backoff }

theorem State.provisionServing_eq (s : State) (t : TermId) (body : List Byte) :
    s.provisionServing t body =
      ((s.setTerm t (servingRec body s.params.holdOffLoad)).mark t).send
        (.admission t (provisionedRec body).startPower s.effectFrame (upAt body) (downAt body)) := by
  unfold State.provisionServing
  dsimp only
  rw [State.transition_of_state _ _ _ _ (by rw [State.setTerm_term_self]; rfl), State.setTerm_term_self,
    State.setTerm_setTerm]
  rfl

theorem State.provisionRestore_eq (s : State) (t : TermId) (body : List Byte) :
    s.provisionRestore t body = (Work.trigger (s.rejoin t (restoreRec body s.lastFrame))).close :=
  congrArg (fun v => (Work.trigger v).close) (State.join_transition_setTerm s t _ _ rfl)

theorem State.unbar_eq (s : State) (t : TermId) (h : (s.term t).state = .barred) :
    s.unbar t = (Work.trigger (s.rejoin t ((s.term t).unbarred s.lastFrame))).close :=
  congrArg (fun v => (Work.trigger v).close) (State.join_transition_setTerm s t _ _ h)

theorem State.requeueNow_eq (s : State) (t : TermId) (a : TermState) (h : (s.term t).state = a) :
    s.requeueNow t a = (Work.trigger (s.rejoin t (s.term t).requeued)).close := by
  subst h
  exact congrArg (fun v => (Work.trigger v).close) (State.join_transition_setTerm s t _ _ rfl)

/-! ### Acts of the requests -/

namespace State.Acts

variable {s x : State} {t : TermId}

theorem provisionServing {body : List Byte} (h : Acts s x) (hst : (x.term t).state = .unused) :
    Acts s (x.provisionServing t body) := by
  rw [State.provisionServing_eq]
  exact (h.act (.serves t body hst)).mark.send

theorem provisionRestore {body : List Byte} (h : Acts s x) (hst : (x.term t).state = .unused) :
    Acts s (x.provisionRestore t body) := by
  rw [State.provisionRestore_eq]
  exact (trigger (h.act (.joins t _ (.provisioned body _ hst)))).close

theorem changeClass {cls : Nat} (h : Acts s x) (hc : cls ≤ 3) : Acts s (x.changeClass t cls).st := by
  unfold State.changeClass
  split
  · next hst => exact h.act (.regroup t cls (x.term t).heard hst (.inr hc))
  · next hst =>
    refine h.act (.reclass t cls (by simp [hst]) hc rfl rfl rfl (fun e => ?_) rfl rfl)
    simp only [State.worker, State.job, Work.trigger, State.setTerm_engines, mapPlaces_get, Option.map_map]
    congr 1
    funext j
    simp only [Function.comp]
    split <;> rfl
  · next hst =>
    refine h.act (.reclass t cls (by simp [hst]) hc rfl rfl ?_ (fun _ => rfl) rfl rfl)
    simp only [State.onStack, Work.trigger, State.setStack_stack, State.setTerm_stack, List.map_map]
    congr 1
    funext c
    simp only [Function.comp]
    split <;> rfl
  · next hq _ _ => exact h.act (.reclass t cls hq hc rfl rfl rfl (fun _ => rfl) rfl rfl)

theorem storeValues {v : Provisioned} (h : Acts s x) : Acts s (x.storeValues t v.clamped).st := by
  have hw : Acts s (x.setTerm t ((x.term t).withValues { v.clamped with cls := (x.term t).cls })) :=
    h.write (.one (.values v))
  unfold State.storeValues
  dsimp only
  split
  · exact hw
  · refine hw.changeClass ?_
    show clampNat 0 3 v.cls ≤ 3
    rw [clampNat_eq _ _ _ (by decide)]
    omega

theorem clampIfAbove (h : Acts s x) : Acts s (x.clampIfAbove t) := by
  unfold State.clampIfAbove
  split
  · exact h.clampPower
  · exact h

theorem takenOut {r : TermRec} (h : Acts s x) (hst : (x.term t).state ≠ .unused)
    (hr : r = .powerOn ∨ r = { x.term t with state := .barred, heard := false, missCount := 0, backoff := 0 })
    (left : Bool) {due : Bool} :
    Acts s (((⟨((x.takeOut t).st.setTerm t r).mark t, due⟩ : Work).checkClearIf left).close) :=
  (checkClearIf (w := ⟨_, due⟩) (h.act (.takesOut t r hst hr)).mark).close

theorem unbar (h : Acts s x) (hst : (x.term t).state = .barred) : Acts s (x.unbar t) := by
  rw [State.unbar_eq _ _ hst]
  refine (trigger (h.act (.joins t _ ?_))).close
  have hb : (x.term t).unbarred x.lastFrame = { x.term t with
      state := .queued, backoff := if (x.term t).state = .backoff then 0 else (x.term t).backoff
      heard := false, retries := 0, missCount := 0, lostAt := some x.lastFrame, lossReason := some .forced } := by
    simp [TermRec.unbarred, hst]
  rw [hb]
  exact .released 0 0 false _ _ (.inr (.inr hst)) (.inr rfl) (.inr rfl)

theorem requeueNow {a : TermState} (h : Acts s x) (hst : (x.term t).state = a) (ha : a = .backoff ∨ a = .held) :
    Acts s (x.requeueNow t a) := by
  rw [State.requeueNow_eq _ _ _ hst]
  subst hst
  exact (trigger (h.act (.joins t _ (.released _ _ false _ _ (ha.imp_right .inl) (.inl rfl) (.inl rfl))))).close

theorem restoreNow (h : Acts s x) : Acts s (x.restoreNow t).st := by
  unfold State.restoreNow
  split
  · next hst => exact (trigger (h.lose hst)).close
  · next hst => exact h.requeueNow hst (.inl rfl)
  · next hst => exact h.requeueNow hst (.inr rfl)
  · exact h
  · exact h

/-- A request on a terminal does nothing but what it does on the terminal named (R8). -/
theorem onTerminal {n : Nat} {f : TermId → Answer} (h : Acts s x) (hf : ∀ t, Acts s (f t).st) :
    Acts s (x.onTerminal n f).st := by
  unfold State.onTerminal
  split
  · exact h
  · split
    · exact h
    · exact hf _

theorem onProvisioned {n : Nat} {f : TermId → Answer} (h : Acts s x)
    (hf : ∀ t, (x.term t).state ≠ .unused → Acts s (f t).st) : Acts s (x.onProvisioned n f).st := by
  refine h.onTerminal (fun t => ?_)
  split
  · exact h
  · next hst => exact hf t hst

/-- The work of every request is a chain of acts. -/
theorem carry {k : ReqKind} {body : List Byte} (h : Acts s x) : Acts s (Machine.carry k body x).st := by
  cases k with
  | provision =>
    refine h.onTerminal (fun t => ?_)
    split
    · exact h
    · next hst =>
      have hst : (x.term t).state = .unused := by simpa using hst
      split
      · exact h.provisionServing hst
      · exact h.provisionRestore hst
  | amend => exact h.onProvisioned (fun t _ => h.storeValues.clampIfAbove.close (w := ⟨_, _⟩))
  | retire => exact h.onProvisioned (fun t hst => h.takenOut hst (.inl rfl) _)
  | bar =>
    refine h.onProvisioned (fun t hst => ?_)
    split
    · exact h
    · exact h.takenOut hst (.inr rfl) _
  | unbar =>
    refine h.onProvisioned (fun t _ => ?_)
    split
    · next hst => exact h.unbar hst
    · exact h
  | restoreNow => exact h.onProvisioned (fun t _ => h.restoreNow)
  | readTerminal =>
    show Acts s (carryReadTerminal body x).st
    unfold carryReadTerminal
    dsimp only
    split
    · exact h
    · split
      · exact h
      · split <;> exact h
  | setSector => exact h.act (.sector (sectorAt body))
  | setLadder =>
    show Acts s (carrySetLadder body x).st
    unfold carrySetLadder
    dsimp only
    split
    · next hl => exact h.act (.ladder body hl)
    · exact h
  | hold => exact h.rest
  | release => exact (trigger h.rest).close
  | readChanges => exact h.rest
  | status | readSector | readQueue | restart => exact h

/-- A frame that completes on the control port does what it does in the buffer, or nothing (R156). -/
theorem enterBuffer {q : ReqFrame} {g : State → State} (h : Acts s x) (hg : ∀ {y}, Acts s y → Acts s (g y)) :
    Acts s (x.enterBuffer q g) := by
  unfold State.enterBuffer
  dsimp only
  split
  · exact h.rest
  · exact hg h.rest

theorem takeRequest {k : ReqKind} {tag : Byte} {body : List Byte} (h : Acts s x) :
    Acts s (x.takeRequest k tag body) := by
  refine h.enterBuffer (fun hy => ?_)
  split
  · exact hy.rest
  · exact hy.carry.rest

theorem takeControlFrame {f : WireFrame} {good : Bool} (h : Acts s x) : Acts s (x.takeControlFrame f good) := by
  unfold State.takeControlFrame
  split
  · exact h.enterBuffer (fun hy => hy.rest)
  · split
    · exact h.enterBuffer (fun hy => hy.rest)
    · exact h.takeRequest

theorem takeControlByte {b : Byte} (h : Acts s x) : Acts s (x.takeControlByte b) := by
  unfold State.takeControlByte
  split
  · exact h.rest
  · exact h.takeControlFrame

end State.Acts

end Sys2Proof.Machine
end

section
/-! Every step is a chain of events: work made of acts, or a frame mark, whose counts and expiries stand between two
chains of acts. A law that every act and every mark keeps is kept by every step. -/

namespace Sys2Proof.Machine

/-- One event, or the part of one: a chain of acts, or what a mark does once its number is accepted. The counts lead
through acts to a state in which no backoff stands spent, and acts finish the mark (R103, R149). -/
inductive State.Event (s : State) : State → Prop
  | work {v : State} (h : s.Acts v) : Event s v
  | mark {x v : State} (slip : Bool) (n : FrameNo) (hends : (s.countMark slip n).Acts x)
      (hspent : ∀ u, x.backoffOver u = false) (hrest : x.Acts v) : Event s v

/-- A chain of events. -/
def State.Events : State → State → Prop := Relation.ReflTransGen State.Event

namespace State.Events

variable {s x v : State}

theorem refl : Events s s := Relation.ReflTransGen.refl

theorem trans (h : Events s x) (h' : Events x v) : Events s v := Relation.ReflTransGen.trans h h'

theorem event (h : Events s x) (h' : x.Event v) : Events s v := Relation.ReflTransGen.tail h h'

theorem work (h : Events s x) (h' : x.Acts v) : Events s v := h.event (.work h')

/-- A law that every act keeps and every mark keeps is kept by a chain of events. -/
theorem keeps {P : State → Prop} (hact : ∀ a b, State.Act a b → P a → P b)
    (hmark : ∀ a x b (slip : Bool) (n : FrameNo), (a.countMark slip n).Acts x → (∀ u, x.backoffOver u = false) →
      x.Acts b → P a → P b)
    (h : Events s v) (hs : P s) : P v := by
  induction h with
  | refl => exact hs
  | tail _ he ih =>
    cases he with
    | work ha => exact ha.keeps hact ih
    | mark slip n hends hspent hrest => exact hmark _ _ _ slip n hends hspent hrest ih

/-- A law that every act and the counts of a mark keep is kept by a chain of events. -/
theorem keeps_of_count {P : State → Prop} (hact : ∀ a b, State.Act a b → P a → P b)
    (hcount : ∀ a (slip : Bool) (n : FrameNo), P a → P (a.countMark slip n)) (h : Events s v) (hs : P s) : P v :=
  h.keeps hact (fun a _ _ slip n hends _ hrest ha => hrest.keeps hact (hends.keeps hact (hcount a slip n ha))) hs

end State.Events

/-! ### The expiries of a mark -/

theorem State.backoffOver_iff (s : State) (t : TermId) :
    s.backoffOver t = true ↔ (s.term t).state = .backoff ∧ (s.term t).backoff = 0 := by
  simp [State.backoffOver]

/-- An expiry ends the backoff of its terminal and of no other (R103). -/
theorem State.expireBackoff_backoffOver (s : State) (t u : TermId) :
    (s.expireBackoff t).st.backoffOver u = (s.backoffOver u && decide (u ≠ t)) := by
  unfold State.expireBackoff
  split
  · next hover =>
    obtain ⟨hst, -⟩ := (s.backoffOver_iff t).mp hover
    dsimp only
    rw [State.join_setTerm_transition _ _ _ _ hst]
    have hterm := s.rejoin_term t u { (s.transition t .backoff .queued).term t with heard := false }
    rw [State.transition_term_eq, if_pos rfl] at hterm
    unfold State.backoffOver
    simp only [Work.trigger, State.transition_term_eq, if_true, hterm]
    by_cases hu : u = t <;> simp [hu, TermRec.transit, hst]
  · next hover =>
    have hover : s.backoffOver t = false := by simpa using hover
    by_cases hu : u = t
    · subst hu; simp [Work.quiet, hover]
    · simp [Work.quiet, hu]

/-- After the expiries of a list of terminals the backoffs of the others stand as they stood. -/
theorem foldl_expireBackoff_backoffOver (l : List TermId) (w : Work) (u : TermId) :
    (l.foldl (fun (w : Work) t => w.andThen (fun s => s.expireBackoff t)) w).st.backoffOver u =
      (w.st.backoffOver u && decide (u ∉ l)) := by
  induction l generalizing w with
  | nil => simp
  | cons t l ih =>
    rw [List.foldl_cons, ih]
    simp only [Work.andThen, State.expireBackoff_backoffOver, List.mem_cons, not_or, Bool.decide_and, Bool.and_assoc]

theorem State.mem_expiring (s : State) (t : TermId) : t ∈ s.expiring ↔ s.backoffOver t = true := by
  unfold State.expiring
  rw [(sortRanked_perm _ _).mem_iff, List.mem_filter]
  exact and_iff_right (List.mem_finRange t)

/-- The expiries of a mark (R103), in their free order. -/
def State.expireAll (s : State) : Work :=
  s.expireLosses.expiring.foldl (fun (w : Work) t => w.andThen (fun s => s.expireBackoff t)) (Work.quiet s.expireLosses)

theorem State.expireAll_spent (s : State) (u : TermId) : s.expireAll.st.backoffOver u = false := by
  unfold State.expireAll
  rw [foldl_expireBackoff_backoffOver]
  by_cases hu : u ∈ s.expireLosses.expiring
  · simp [hu]
  · have hover : s.expireLosses.backoffOver u = false := by simpa [State.mem_expiring] using hu
    simp [Work.quiet, hover]

theorem State.Acts.freeSendOrder {s x : State} {n m : Nat} (h : s.Acts x) : s.Acts (x.freeSendOrder n m) := h.rest

theorem State.expireAll_acts (s : State) : s.Acts s.expireAll.st :=
  State.Acts.foldl_andThen (fun h => h.expireBackoff) _ (State.Acts.rest .refl)

/-- The ramp ticks of a mark, after its expiries. -/
def State.tickAll (s : State) : Work :=
  s.expireAll.andThen (fun s => Work.quiet (allEngines.foldl State.tickIfDue s))

/-- The timeouts of a mark, after its ramp ticks. -/
def State.timeAll (s : State) : Work :=
  allTags.foldl (fun (w : Work) k => w.andThen (fun s => s.timeoutIfDue k)) s.tickAll

theorem State.markEnds_st (s : State) :
    s.markEnds.st = s.timeAll.st.freeSendOrder s.outbox.length s.tickAll.st.outbox.length := by
  simp only [State.markEnds, State.timeAll, State.tickAll, State.expireAll, Work.andThen, Work.quiet]

/-- The work of a mark after its expiries: ramp ticks and timeouts. -/
theorem State.markEnds_acts (s : State) : s.expireAll.st.Acts s.markEnds.st := by
  have htick : s.expireAll.st.Acts s.tickAll.st := by
    simp only [State.tickAll, Work.andThen, Work.quiet]
    exact State.Acts.foldl (f := State.tickIfDue) (fun h => h.tickIfDue) _ .refl
  have htime : s.expireAll.st.Acts s.timeAll.st := by
    unfold State.timeAll
    exact State.Acts.foldl_andThen (f := State.timeoutIfDue) (fun h => h.timeoutIfDue) _ htick
  rw [State.markEnds_st]
  exact htime.freeSendOrder

namespace State.Events

variable {s x : State}

/-- A frame mark: the number accepted, the counts, the expiries, the other ends, the evaluation, the slots (R148, R149). -/
theorem frameMark {n : FrameNo} {slots : Nat} (h : Events s x) : Events s (x.frameMark n slots) := by
  have haccept : Events s (x.acceptMark n) := h.work (State.Acts.rest .refl)
  refine haccept.event (.mark (x.isSlip n) n (State.expireAll_acts _) (State.expireAll_spent _) ?_)
  exact (((State.markEnds_acts _).close).allocate (slots := min slots 4)).rest

theorem takeModemCommand {c : Instr} (h : Events s x) : Events s (x.takeModemCommand c) := by
  unfold State.takeModemCommand
  split
  · exact h.frameMark
  · exact h.work (State.Acts.takeReport .refl)
  · exact h.work (State.Acts.takeReport .refl)
  · exact h.work (State.Acts.takePollResult .refl)
  · exact h

theorem takeModemFrame {f : WireFrame} (h : Events s x) : Events s (x.takeModemFrame f) := by
  have hhunt : Events s x.mlHunt := h.work (State.Acts.rest .refl)
  unfold State.takeModemFrame
  split
  · exact hhunt
  · exact hhunt.takeModemCommand

theorem takeModemByte {b : Byte} (h : Events s x) : Events s (x.takeModemByte b) := by
  unfold State.takeModemByte
  split
  · exact h.work (State.Acts.rest .refl)
  · split
    · exact h.takeModemFrame
    · exact h.work (State.Acts.rest .refl)

end State.Events

/-! ### The step -/

/-- The meaning of every command is a chain of events. -/
theorem exec_events {c : Instr} {s v : State} (h : exec c s = .next v) : s.Events v := by
  have hw : ∀ {x : State}, s.Acts x → Host.Outcome.next x = (Host.Outcome.next v : Result) → s.Events v := by
    rintro x hx ⟨⟩; exact State.Events.refl.work hx
  have he : ∀ {x : State}, s.Events x → Host.Outcome.next x = (Host.Outcome.next v : Result) → s.Events v := by
    rintro x hx ⟨⟩; exact hx
  have hhunt : s.Events s.mlHunt := State.Events.refl.work (State.Acts.rest .refl)
  have hreset : ∀ c, s.Acts (s.restarted c) := fun c => State.Acts.act .refl (.reset rfl rfl rfl rfl rfl rfl)
  cases c with
  | powerOn => exact hw (hreset _) h
  | replySent =>
    refine hw ?_ h
    unfold State.replyLeaves
    split
    · exact hreset _
    · split
      · exact State.Acts.rest .refl
      · exact .refl
  | restartReset =>
    refine hw ?_ h
    split
    · exact hreset _
    · exact .refl
  | cpLengthDiscard => exact hw (State.Acts.takeControlByte .refl) h
  | cpSyncFound => exact hw (State.Acts.foldl (fun h => h.takeControlByte) _ .refl) h
  | frameDiscardedBufferOccupied | badFrame | badKind => exact hw (State.Acts.takeControlFrame .refl) h
  | status | setSector | readSector | setLadder | provision | amend | retire | bar | unbar | restoreNow | readTerminal
  | hold | release | readChanges | readQueue | restart => exact hw (State.Acts.takeRequest .refl) h
  | mlLengthDiscard => exact he (State.Events.takeModemByte .refl) h
  | mlSyncFound bytes =>
    refine he ?_ h
    have hbytes : ∀ (l : List Byte) (x : State), s.Events x → s.Events (l.foldl State.takeModemByte x) := fun l => by
      induction l with
      | nil => exact fun _ hx => hx
      | cons b l ih => exact fun _ hx => ih _ hx.takeModemByte
    exact hbytes bytes s .refl
  | mlFrameDropped => exact he (State.Events.takeModemFrame .refl) h
  | frame => exact he hhunt.frameMark h
  | burst | miss => exact he (hhunt.work (State.Acts.takeReport .refl)) h
  | pollResult => exact he (hhunt.work (State.Acts.takePollResult .refl)) h
  | cpGapDiscard | mlGapDiscard | mlCrcDiscard | modemSilent | lossWindowExpiry | outboundMessageSent =>
    exact hw (State.Acts.rest .refl) h
  | commandEffective => exact hw (State.Acts.complete .refl) h
  | ambiguityWindowClose => exact hw (State.Acts.write .refl (.windowClosed _)) h
  | backoffExpiry =>
    refine hw ?_ h
    split
    · exact (State.Acts.expireBackoff .refl).close
    · exact .refl
  | rampTick => exact hw (State.Acts.tickIfDue .refl) h
  | pollTimeout =>
    refine hw ?_ h
    split
    · exact (State.Acts.timeoutIfDue .refl).close
    · exact .refl

/-- Every step is a chain of events. -/
theorem step_events {s v : State} (h : step s = .next v) : s.Events v := by
  unfold step at h
  split at h
  · cases h
    exact State.Events.refl.work (State.Acts.rest .refl)
  · exact State.Events.trans (.work .refl (State.Acts.rest .refl)) (exec_events h)

end Sys2Proof.Machine
end

section
/-! What an act does to a record, whatever the collections hold, and the laws of the records that follow from it. -/

namespace Sys2Proof.Machine

/-! ### The records after the acts -/

theorem State.grant_term (s : State) (e : EngineId) (t u : TermId) :
    (s.grant e t).term u = if u = t then { (s.term t).transit .queued .active with heard := false } else s.term u := by
  unfold State.grant
  simp only [State.setJob_term, State.nextSerial_term, State.setTerm_term, State.transition_term_eq, if_true,
    State.leaveQueue_term]
  split <;> simp_all

theorem State.resume_term (s : State) (e : EngineId) (c : Context) (below : List Context) (u : TermId) :
    (s.resume e c below).term u = if u = c.term then (s.term u).transit .suspended .active else s.term u := by
  unfold State.resume
  simp only [State.setJob_term, State.nextSerial_term, State.transition_term_eq, State.setStack_term]

theorem State.handOver_term (s : State) (e : EngineId) (t u : TermId) :
    (s.handOver e t).term u =
      if u = t then { (s.term t).transit .active .serving with lossPower := none, lostAt := none, lossReason := none }
      else s.term u := by
  unfold State.handOver
  simp only [State.setJob_term, State.setTerm_term, State.transition_term_eq, if_true]
  split <;> simp_all

/-- The record of an exhausted job's terminal, in whatever state it is (R101, R102). -/
def TermRec.spent (r : TermRec) (p : SectorParams) : TermRec :=
  let retries := min (r.retries + 1) 15
  let r := { r with retries := retries }
  if retries ≤ p.retryLimit then { r.transit .active .backoff with backoff := backoffFrames p.backoffBase retries }
  else r.transit .active .held

theorem State.exhaust_term (s : State) (e : EngineId) (j : Job) (u : TermId) :
    (s.exhaust e j).term u = if u = j.term then (s.term j.term).spent s.params else s.term u := by
  unfold State.exhaust TermRec.spent
  dsimp only
  generalize hn : min ((s.term j.term).retries + 1) 15 = n
  generalize hx : (if j.phase.admitted = true then _ else _) = x
  have hp : x.params = s.params := by rw [← hx]; split <;> rfl
  have ht : ∀ u, x.term u = if u = j.term then { s.term j.term with retries := n } else s.term u := fun u => by
    rw [← hx]; split <;> simp [State.setTerm_term]
  rw [hp]
  split
  · simp only [State.setJob_term, State.setTerm_term, State.transition_term_eq, ht, if_true, State.transition_params, hp]
    split <;> simp_all
  · simp only [State.setJob_term, State.transition_term_eq, ht]
    split <;> simp_all

theorem State.preempt_term (s : State) (e : EngineId) (j : Job) (t u : TermId) :
    (s.preempt e j t).term u =
      if u = t then { (if t = j.term then (s.term t).transit .active .suspended else s.term t).transit .queued .active with
        heard := false }
      else if u = j.term then (s.term u).transit .active .suspended else s.term u := by
  unfold State.preempt
  simp only [State.grant_term, State.transition_term_eq, State.setStack_term]

@[simp] theorem State.takeOut_term (s : State) (t u : TermId) : (s.takeOut t).st.term u = s.term u := by
  unfold State.takeOut
  dsimp only
  rw [State.markStale_term, State.setStack_term]
  split <;> rfl

/-- A second transition of one kind finds nothing to do. -/
theorem TermRec.transit_transit (r : TermRec) {a b : TermState} (hab : a ≠ b) :
    (r.transit a b).transit a b = r.transit a b := by
  unfold TermRec.transit
  by_cases h : r.state = a <;> simp [h, hab.symm]

/-- One terminal after another passes from `a` to `b`. -/
theorem foldl_transition_term (l : List TermId) (s : State) {a b : TermState} (hab : a ≠ b) (u : TermId) :
    (l.foldl (fun s t => s.transition t a b) s).term u = if u ∈ l then (s.term u).transit a b else s.term u := by
  induction l generalizing s with
  | nil => simp
  | cons t l ih =>
    rw [List.foldl_cons, ih, State.transition_term_eq]
    by_cases hu : u = t
    · simp [hu, TermRec.transit_transit _ hab]
    · simp [hu]

/-- An engine's job abandoned (R139): its terminal passes from ACTIVE to QUEUED and the engine is idle. -/
theorem State.abandonJob_spec (s : State) (e : EngineId) :
    (∀ u, (s.abandonJob e).term u = if s.worker e = some u then (s.term u).transit .active .queued else s.term u) ∧
    (∀ f, (s.abandonJob e).job f = if f = e then none else s.job f) ∧
    (s.abandonJob e).queue = s.queue ∧ (s.abandonJob e).stack = s.stack := by
  unfold State.abandonJob
  split
  · next hj =>
    have hw : s.worker e = none := by unfold State.worker; rw [hj]; rfl
    refine ⟨fun u => by simp [hw], fun f => ?_, rfl, rfl⟩
    split
    · next hf => rw [hf, hj]
    · rfl
  · next j hj =>
    rw [State.worker_of_job hj]
    dsimp only
    generalize hx : (if j.phase.admitted = true then s.send (.withdraw j.term) else s) = x
    obtain ⟨ht, hjob, hq, hk⟩ :
        (∀ u, x.term u = s.term u) ∧ (∀ f, x.job f = s.job f) ∧ x.queue = s.queue ∧ x.stack = s.stack := by
      rw [← hx]; split <;> exact ⟨fun _ => rfl, fun _ => rfl, rfl, rfl⟩
    refine ⟨fun u => ?_, fun f => ?_, by simp [hq], by simp [hk]⟩
    · simp only [State.transition_term_eq, State.setJob_term, ht, Option.some.injEq, eq_comm]
    · simp only [State.transition_job, State.setJob_job, hjob]

/-- The jobs abandoned at outage entry, engine after engine (R139). -/
theorem foldl_abandonJob (l : List EngineId) (s : State) :
    (∀ u, (l.foldl State.abandonJob s).term u =
      if ∃ e ∈ l, s.worker e = some u then (s.term u).transit .active .queued else s.term u) ∧
    (∀ e, (l.foldl State.abandonJob s).job e = if e ∈ l then none else s.job e) ∧
    (l.foldl State.abandonJob s).queue = s.queue ∧ (l.foldl State.abandonJob s).stack = s.stack := by
  induction l generalizing s with
  | nil => simp
  | cons e l ih =>
    obtain ⟨ht, hjob, hq, hk⟩ := s.abandonJob_spec e
    obtain ⟨iht, ihjob, ihq, ihk⟩ := ih (s.abandonJob e)
    have hworker : ∀ f, (s.abandonJob e).worker f = if f = e then none else s.worker f := fun f => by
      unfold State.worker; rw [hjob]; split <;> rfl
    refine ⟨fun u => ?_, fun f => ?_, ihq.trans hq, ihk.trans hk⟩
    · rw [List.foldl_cons, iht, ht]
      by_cases he : s.worker e = some u
      · simp [he, TermRec.transit_transit _ (show TermState.active ≠ .queued by decide)]
      · have hiff : (∃ f ∈ l, (s.abandonJob e).worker f = some u) ↔ ∃ f ∈ l, s.worker f = some u := by
          refine exists_congr (fun f => and_congr_right (fun _ => ?_))
          rw [hworker]
          by_cases hf : f = e <;> simp [hf, he]
        simp [he, hiff]
    · rw [List.foldl_cons, ihjob, hjob]
      by_cases hf : f = e <;> simp [hf]

/-! ### Outage entry -/

/-- The state at outage entry once the jobs and the contexts are abandoned (R139, R140). -/
def State.abandonAll (s : State) : State :=
  (s.stack.map Context.term).foldl (fun s t => s.transition t .suspended .queued)
    ((allEngines.foldl State.abandonJob (s.setMode .outage)).setStack [])

theorem State.enterOutage_eq (s : State) :
    s.enterOutage =
      { (s.abandonAll.setQueue (s.abandonAll.requeued s.abandonList)).clearHeard with lossWindow := [] } := by
  simp only [State.enterOutage, State.abandonAll]

@[simp] theorem State.setMode_term (s : State) (m : Mode) (u : TermId) : (s.setMode m).term u = s.term u := by
  unfold State.setMode; split <;> rfl

@[simp] theorem State.setMode_worker (s : State) (m : Mode) (e : EngineId) : (s.setMode m).worker e = s.worker e := by
  unfold State.setMode; split <;> rfl

theorem mem_allEngines (e : EngineId) : e ∈ allEngines := by revert e; decide

theorem State.abandonAll_term (s : State) (u : TermId) :
    s.abandonAll.term u =
      (if u ∈ s.onStack then
        (if ∃ e, s.worker e = some u then (s.term u).transit .active .queued else s.term u).transit .suspended .queued
       else if ∃ e, s.worker e = some u then (s.term u).transit .active .queued else s.term u) := by
  unfold State.abandonAll
  rw [foldl_transition_term _ _ (by decide), State.setStack_term, (foldl_abandonJob _ _).1]
  simp only [mem_allEngines, true_and, State.setMode_worker, State.setMode_term, State.onStack]
  congr

theorem foldl_transition_rest (l : List TermId) (s : State) (a b : TermState) :
    (l.foldl (fun s t => s.transition t a b) s).queue = s.queue ∧
    (l.foldl (fun s t => s.transition t a b) s).stack = s.stack ∧
    (l.foldl (fun s t => s.transition t a b) s).engines = s.engines := by
  induction l generalizing s with
  | nil => exact ⟨rfl, rfl, rfl⟩
  | cons t l ih =>
    obtain ⟨hq, hk, he⟩ := ih (s.transition t a b)
    exact ⟨hq.trans (by simp), hk.trans (by simp), he.trans (by simp)⟩

theorem State.abandonAll_rest (s : State) :
    s.abandonAll.queue = s.queue ∧ s.abandonAll.stack = [] ∧ ∀ e, s.abandonAll.job e = none := by
  obtain ⟨-, hjob, hq, -⟩ := foldl_abandonJob allEngines (s.setMode .outage)
  obtain ⟨hq', hk', he'⟩ := foldl_transition_rest (s.stack.map Context.term)
    ((allEngines.foldl State.abandonJob (s.setMode .outage)).setStack []) .suspended .queued
  unfold State.abandonAll
  refine ⟨?_, ?_, fun e => ?_⟩
  · rw [hq', State.setStack_queue, hq]
    unfold State.setMode; split <;> rfl
  · rw [hk', State.setStack_stack]
  · rw [State.job_congr he', State.setStack_job, hjob, if_pos (mem_allEngines e)]

theorem State.enterOutage_term (s : State) (u : TermId) :
    s.enterOutage.term u =
      (if (s.abandonAll.term u).state = .queued then { s.abandonAll.term u with heard := false }
       else s.abandonAll.term u) := by
  rw [State.enterOutage_eq]
  exact State.clearHeard_term _ u

end Sys2Proof.Machine
end

section
/-! The laws of the records' ranges: each change an act makes to a record keeps them, in every state. -/

namespace Sys2Proof.Machine

/-! ### Changes of a record -/

/-- What one act does to one record, whatever the collections hold. -/
inductive TermRec.Change (p : SectorParams) (r : TermRec) : TermRec → Prop
  | rewrites {r' : TermRec} (h : TermRec.Rewrites p r r') : Change p r r'
  /-- The terminal is provisioned and stays so; its place and its counts of retries and backoff are written. -/
  | placed (st : TermState) (heard : Bool) (retries backoff : Nat)
      (hst : st = r.state ∨ (r.state ≠ .unused ∧ st ≠ .unused)) (hr : retries = r.retries ∨ retries ≤ 15)
      (hb : backoff = r.backoff ∨ backoff ≤ 65535) :
      Change p r { r with state := st, heard := heard, retries := retries, backoff := backoff }
  | joins {r' : TermRec} (h : r.Joins r') : Change p r r'
  | classed (cls : Nat) (heard : Bool) (hc : cls = r.cls ∨ cls ≤ 3) : Change p r { r with cls := cls, heard := heard }
  | serves (body : List Byte) : Change p r (servingRec body p.holdOffLoad)
  | powerOn : Change p r .powerOn
  | barred (h : r.state ≠ .unused) :
      Change p r { r with state := .barred, heard := false, missCount := 0, backoff := 0 }

/-- Any number of changes. -/
def TermRec.Changes (p : SectorParams) : TermRec → TermRec → Prop := Relation.ReflTransGen (TermRec.Change p)

namespace TermRec.Changes

variable {p : SectorParams} {r r' r'' : TermRec}

theorem refl : Changes p r r := Relation.ReflTransGen.refl

theorem one (h : r.Change p r') : Changes p r r' := Relation.ReflTransGen.single h

theorem trans (h : Changes p r r') (h' : Changes p r' r'') : Changes p r r'' := Relation.ReflTransGen.trans h h'

theorem keeps {Q : TermRec → Prop} (hQ : ∀ x y, TermRec.Change p x y → Q x → Q y) (h : Changes p r r') (hr : Q r) :
    Q r' := by
  induction h with
  | refl => exact hr
  | tail _ hstep ih => exact hQ _ _ hstep ih

theorem heardFlag (heard : Bool) : Changes p r { r with heard := heard } :=
  one (.placed r.state heard r.retries r.backoff (.inl rfl) (.inl rfl) (.inl rfl))

theorem transit {a b : TermState} (ha : a ≠ .unused) (hb : b ≠ .unused) : Changes p r (r.transit a b) := by
  unfold TermRec.transit
  split
  · next hst =>
    refine one (.placed b r.heard r.retries _ (.inr ⟨hst ▸ ha, hb⟩) (.inl rfl) ?_)
    split
    · exact .inr (Nat.zero_le _)
    · exact .inl rfl
  · exact refl

theorem transit_if {c : Prop} [Decidable c] {a b : TermState} (ha : a ≠ .unused) (hb : b ≠ .unused) :
    Changes p r (if c then r.transit a b else r) := by
  split
  · exact transit ha hb
  · exact refl

theorem spent (q : SectorParams) : Changes p r (r.spent q) := by
  have hretries : Changes p r { r with retries := min (r.retries + 1) 15 } :=
    one (.placed r.state r.heard _ r.backoff (.inl rfl) (.inr (Nat.min_le_right _ _)) (.inl rfl))
  unfold TermRec.spent
  dsimp only
  split
  · exact (hretries.trans (transit (by decide) (by decide))).trans
      (one (.placed _ _ _ _ (.inl rfl) (.inl rfl) (.inr (Nat.min_le_right _ _))))
  · exact hretries.trans (transit (by decide) (by decide))

end TermRec.Changes

theorem State.reset_term (t : TermId) : State.reset.term t = .powerOn := Vector.getElem_replicate t.isLt

theorem State.reset_job (e : EngineId) : State.reset.job e = none := Vector.getElem_replicate e.isLt

theorem State.reset_poll (k : PollTag) : State.reset.poll k = none := Vector.getElem_replicate k.isLt

theorem State.reset_marked (t : TermId) : State.reset.marked t = false := Vector.getElem_replicate t.isLt

/-- An act changes each record as `Change` says. -/
theorem State.Act.changes {s v : State} (h : s.Act v) (u : TermId) : TermRec.Changes s.params (s.term u) (v.term u) := by
  have hwrite : ∀ {t : TermId} {r : TermRec}, TermRec.Changes s.params (s.term t) r →
      TermRec.Changes s.params (s.term u) (if u = t then r else s.term u) := fun hr => by
    split
    · next hu => exact hu ▸ hr
    · exact .refl
  cases h with
  | quiet h => exact .one (.rewrites (h.records u))
  | reset ht =>
    rw [State.term_congr ht, State.reset_term]
    exact .one .powerOn
  | sector | ladder => exact .refl
  | grant e t =>
    rw [State.grant_term]
    exact hwrite ((TermRec.Changes.transit (by decide) (by decide)).trans (.heardFlag false))
  | resume e c =>
    rw [State.resume_term]
    exact .transit_if (by decide) (by decide)
  | preempt e j t =>
    rw [State.preempt_term]
    split
    · next hu =>
      subst hu
      exact ((TermRec.Changes.transit_if (by decide) (by decide)).trans
        (.transit (by decide) (by decide))).trans (.heardFlag false)
    · exact .transit_if (by decide) (by decide)
  | outage =>
    have habandon : TermRec.Changes s.params (s.term u) (s.abandonAll.term u) := by
      rw [State.abandonAll_term]
      split
      · exact (TermRec.Changes.transit_if (by decide) (by decide)).trans (.transit (by decide) (by decide))
      · exact .transit_if (by decide) (by decide)
    rw [State.enterOutage_term]
    split
    · exact habandon.trans (.heardFlag false)
    · exact habandon
  | joins t r h =>
    rw [State.rejoin_term]
    exact hwrite (.one (.joins h))
  | regroup t cls heard hst hc =>
    show TermRec.Changes s.params (s.term u) ((s.setTerm t _).term u)
    rw [State.setTerm_term]
    exact hwrite (.one (.classed cls heard hc))
  | reclass t cls hst hc ht =>
    rw [State.term_congr ht, State.setTerm_term]
    exact hwrite (.one (.classed cls (s.term t).heard (.inr hc)))
  | exhaust e j =>
    rw [State.exhaust_term]
    exact hwrite (.spent _)
  | handOver e t =>
    rw [State.handOver_term]
    exact hwrite ((TermRec.Changes.transit (by decide) (by decide)).trans (.one (.rewrites (.one .recovered))))
  | serves t body hst =>
    rw [State.setTerm_term]
    exact hwrite (.one (.serves body))
  | takesOut t r hst hr =>
    rw [State.setTerm_term, State.takeOut_term]
    refine hwrite ?_
    rcases hr with rfl | rfl
    · exact .one .powerOn
    · exact .one (.barred hst)

/-! ### The ranges of the provisioned values (R1, R2) -/

/-- The law of the provisioned values, for one record. -/
def TermRec.Provisioned (r : TermRec) : Prop :=
  r.cls ≤ 3 ∧ r.pmax ≤ 80 ∧ r.startPower ≤ r.pmax ∧ r.su ≤ 240 ∧ r.sd ≤ 240 ∧
    (r.state ≠ .unused → -440 ≤ r.refLevel ∧ r.refLevel ≤ -120 ∧ 1 ≤ r.depth ∧ r.depth ≤ 8)

theorem provisionedLaw_iff (s : State) : ProvisionedLaw s ↔ ∀ t, (s.term t).Provisioned := Iff.rfl

/-- The clamps of R2 bring the seven values into their ranges. -/
theorem Provisioned.clamped_ranges (v : Provisioned) :
    v.clamped.cls ≤ 3 ∧ v.clamped.pmax ≤ 80 ∧ v.clamped.startPower ≤ v.clamped.pmax ∧ v.clamped.su ≤ 240 ∧
    v.clamped.sd ≤ 240 ∧ -440 ≤ v.clamped.refLevel ∧ v.clamped.refLevel ≤ -120 ∧ 1 ≤ v.clamped.depth ∧
    v.clamped.depth ≤ 8 := by
  unfold Provisioned.clamped
  dsimp only
  rw [clampInt_eq _ _ _ (by decide), clampNat_eq 0 80 _ (by decide), clampNat_eq 0 3 _ (by decide),
    clampNat_eq 0 240 _ (by decide), clampNat_eq 0 240 _ (by decide), clampNat_eq 1 8 _ (by decide),
    clampNat_eq 0 _ _ (Nat.zero_le _)]
  omega

theorem provisionedRec_ranges (body : List Byte) (st : TermState) :
    TermRec.Provisioned { provisionedRec body with state := st } := by
  obtain ⟨hcls, hpmax, hstart, hsu, hsd, href⟩ := (provisionedAt body).clamped_ranges
  exact ⟨hcls, hpmax, hstart, hsu, hsd, fun _ => href⟩

theorem TermRec.Rewrite.provisioned {p : SectorParams} {r r' : TermRec} (h : r.Rewrite p r') (hr : r.Provisioned) :
    r'.Provisioned := by
  cases h with
  | effective => unfold TermRec.effective; split <;> exact hr
  | values v =>
    obtain ⟨-, hpmax, hstart, hsu, hsd, href⟩ := v.clamped_ranges
    exact ⟨hr.1, hpmax, hstart, hsu, hsd, fun _ => href⟩
  | _ => exact hr

theorem TermRec.Change.provisioned {p : SectorParams} {r r' : TermRec} (h : r.Change p r') (hr : r.Provisioned) :
    r'.Provisioned := by
  obtain ⟨hcls, hpmax, hstart, hsu, hsd, href⟩ := hr
  cases h with
  | rewrites h => exact h.keeps (fun _ _ h => h.provisioned) ⟨hcls, hpmax, hstart, hsu, hsd, href⟩
  | placed st _ _ _ hst =>
    refine ⟨hcls, hpmax, hstart, hsu, hsd, fun hne => href ?_⟩
    rcases hst with rfl | ⟨hne', -⟩
    · exact hne
    · exact hne'
  | joins h =>
    cases h with
    | provisioned body n => exact provisionedRec_ranges body .queued
    | lost _ _ hst => exact ⟨hcls, hpmax, hstart, hsu, hsd, fun _ => href (by simp [hst])⟩
    | released _ _ _ _ _ hst =>
      exact ⟨hcls, hpmax, hstart, hsu, hsd, fun _ => href (by rcases hst with h | h | h <;> simp [h])⟩
  | classed cls _ hc => exact ⟨by dsimp only; omega, hpmax, hstart, hsu, hsd, href⟩
  | serves body => exact provisionedRec_ranges body .serving
  | powerOn => unfold TermRec.Provisioned; decide
  | barred hst => exact ⟨hcls, hpmax, hstart, hsu, hsd, fun _ => href hst⟩

/-! ### The ranges of the profiles and the powers (R1) -/

/-- The law of the profiles and the powers, for one record. -/
def TermRec.Fits (r : TermRec) : Prop :=
  r.up ≤ 7 ∧ r.down ≤ 7 ∧ r.pe ≤ 80 ∧ r.pendingCmd.all (fun c => c.value ≤ 80) = true ∧
    r.lossPower.all (fun p => p ≤ 80) = true ∧ r.foundPower.all (fun p => p ≤ 80) = true

theorem recordLaw_iff (s : State) : RecordLaw s ↔ ∀ t, (s.term t).Fits := Iff.rfl

theorem provisionedRec_fits (body : List Byte) : (provisionedRec body).Fits := by
  obtain ⟨-, hpmax, hstart, -⟩ := (provisionedAt body).clamped_ranges
  exact ⟨Nat.zero_le _, Nat.zero_le _, hstart.trans hpmax, rfl, rfl, rfl⟩

theorem TermRec.Rewrite.fits {p : SectorParams} {r r' : TermRec} (h : r.Rewrite p r') (hp : r.Provisioned)
    (hr : r.Fits) : r'.Fits := by
  obtain ⟨hup, hdown, hpe, hcmd, hloss, hfound⟩ := hr
  obtain ⟨-, hpmax, -⟩ := hp
  cases h with
  | effective =>
    unfold TermRec.effective
    split
    · next c hc =>
      rw [hc] at hcmd
      exact ⟨hup, hdown, by simpa using hcmd, rfl, hloss, hfound⟩
    · exact ⟨hup, hdown, hpe, hcmd, hloss, hfound⟩
  | issued v f hv => exact ⟨hup, hdown, hpe, decide_eq_true (hv.trans hpmax), hloss, hfound⟩
  | profiles up down hu hd => exact ⟨by dsimp only; omega, by dsimp only; omega, hpe, hcmd, hloss, hfound⟩
  | found n hn => exact ⟨hup, hdown, hpe, hcmd, hloss, decide_eq_true (hn.trans hpmax)⟩
  | recovered => exact ⟨hup, hdown, hpe, hcmd, rfl, hfound⟩
  | _ => exact ⟨hup, hdown, hpe, hcmd, hloss, hfound⟩

theorem TermRec.Rewrites.fits {p : SectorParams} {r r' : TermRec} (h : TermRec.Rewrites p r r') (hp : r.Provisioned)
    (hr : r.Fits) : r'.Fits :=
  (h.keeps (Q := fun x => x.Provisioned ∧ x.Fits) (fun _ _ h hx => ⟨h.provisioned hx.1, h.fits hx.1 hx.2⟩) ⟨hp, hr⟩).2

theorem TermRec.Change.fits {p : SectorParams} {r r' : TermRec} (h : r.Change p r') (hp : r.Provisioned)
    (hr : r.Fits) : r'.Fits := by
  have hsame := hr
  obtain ⟨hup, hdown, hpe, hcmd, hloss, hfound⟩ := hr
  cases h with
  | rewrites h => exact h.fits hp hsame
  | joins h =>
    cases h with
    | provisioned body n => exact provisionedRec_fits body
    | lost => exact ⟨hup, hdown, hpe, hcmd, decide_eq_true hpe, rfl⟩
    | released => exact hsame
  | serves body =>
    obtain ⟨-, -, hpe', hcmd', hloss', hfound'⟩ := provisionedRec_fits body
    have hclamp : ∀ n, clampNat 0 7 n ≤ 7 := fun n => by rw [clampNat_eq _ _ _ (by decide)]; omega
    exact ⟨hclamp _, hclamp _, hpe', hcmd', hloss', hfound'⟩
  | powerOn => unfold TermRec.Fits; decide
  | placed | classed | barred => exact hsame

/-! ### The ranges of the counters (R4) -/

/-- The ranges of the counters of one record. -/
def TermRec.Counted (r : TermRec) : Prop :=
  r.backoff ≤ 65535 ∧ r.missCount ≤ 15 ∧ r.retries ≤ 15 ∧ r.holdOff ≤ 65535

theorem TermRec.Rewrite.counted {p : SectorParams} {r r' : TermRec} (h : r.Rewrite p r') (hp : p.holdOffLoad ≤ 65535)
    (hr : r.Counted) : r'.Counted := by
  obtain ⟨hback, hmiss, hretry, hhold⟩ := hr
  cases h with
  | effective => unfold TermRec.effective; split <;> exact ⟨hback, hmiss, hretry, hhold⟩
  | misses n hn => exact ⟨hback, hn, hretry, hhold⟩
  | holdOff n hn => exact ⟨hback, hmiss, hretry, by dsimp only; omega⟩
  | _ => exact ⟨hback, hmiss, hretry, hhold⟩

theorem TermRec.Change.counted {p : SectorParams} {r r' : TermRec} (h : r.Change p r') (hp : p.holdOffLoad ≤ 65535)
    (hr : r.Counted) : r'.Counted := by
  have hsame := hr
  obtain ⟨hback, hmiss, hretry, hhold⟩ := hr
  cases h with
  | rewrites h => exact h.keeps (fun _ _ h => h.counted hp) hsame
  | placed _ _ retries backoff _ hr hb => exact ⟨by dsimp only; omega, hmiss, by dsimp only; omega, hhold⟩
  | joins h =>
    cases h with
    | provisioned => exact ⟨Nat.zero_le _, Nat.zero_le _, Nat.zero_le _, Nat.zero_le _⟩
    | lost => exact ⟨hback, Nat.zero_le _, Nat.zero_le _, hhold⟩
    | released retries misses _ _ _ _ hr hm =>
      exact ⟨by dsimp only; split <;> omega, by dsimp only; omega, by dsimp only; omega, hhold⟩
  | classed => exact hsame
  | serves => exact ⟨Nat.zero_le _, Nat.zero_le _, Nat.zero_le _, hp⟩
  | powerOn => exact ⟨Nat.zero_le _, Nat.zero_le _, Nat.zero_le _, Nat.zero_le _⟩
  | barred => exact ⟨Nat.zero_le _, Nat.zero_le _, hretry, hhold⟩

/-! ### The records of an act and of a mark's counts -/

theorem State.Act.provisioned {s v : State} (h : s.Act v) (hs : ProvisionedLaw s) : ProvisionedLaw v :=
  fun t => (h.changes t).keeps (fun _ _ h => h.provisioned) (hs t)

theorem State.Act.fits {s v : State} (h : s.Act v) (hp : ProvisionedLaw s) (hs : RecordLaw s) : RecordLaw v :=
  fun t => ((h.changes t).keeps (Q := fun x => x.Provisioned ∧ x.Fits)
    (fun _ _ h hx => ⟨h.provisioned hx.1, h.fits hx.1 hx.2⟩) ⟨hp t, hs t⟩).2

theorem State.Act.counted {s v : State} (h : s.Act v) (hp : s.params.holdOffLoad ≤ 65535)
    (hs : ∀ t, (s.term t).Counted) (t : TermId) : (v.term t).Counted :=
  (h.changes t).keeps (fun _ _ h => h.counted hp) (hs t)

/-- The record after a mark's counts (R57, R61, R51, R103). -/
theorem State.countMark_term (s : State) (slip : Bool) (n : FrameNo) (u : TermId) :
    (s.countMark slip n).term u = ((s.term u).powerMark slip n).countMark :=
  mapPlaces_get ..

theorem State.countMark_provisioned {s : State} (slip : Bool) (n : FrameNo) (hs : ProvisionedLaw s) :
    ProvisionedLaw (s.countMark slip n) := fun t => by
  rw [State.countMark_term]
  exact (TermRec.Rewrites.powerMark (p := s.params) slip n).keeps (fun _ _ h => h.provisioned) (hs t)

theorem State.countMark_fits {s : State} (slip : Bool) (n : FrameNo) (hp : ProvisionedLaw s) (hs : RecordLaw s) :
    RecordLaw (s.countMark slip n) := fun t => by
  rw [State.countMark_term]
  exact (TermRec.Rewrites.powerMark (p := s.params) slip n).fits (hp t) (hs t)

theorem TermRec.countMark_counted {r : TermRec} (hr : r.Counted) : r.countMark.Counted := by
  obtain ⟨hback, hmiss, hretry, hhold⟩ := hr
  refine ⟨?_, hmiss, hretry, (Nat.sub_le _ _).trans hhold⟩
  unfold TermRec.countMark
  dsimp only
  split <;> omega

/-! ### The parameters and the ladder (R45, R161) -/

theorem sectorLaw_congr {s v : State} (h : v.params = s.params) (hs : SectorLaw s) : SectorLaw v := by
  unfold SectorLaw at hs ⊢
  rwa [h]

theorem ladderLaw_congr {s v : State} (h : v.ladder = s.ladder) (hs : LadderLaw s) : LadderLaw v := by
  unfold LadderLaw at hs ⊢
  rwa [h]

/-- The clamps of R162 bring the parameters into their ranges. -/
theorem SectorParams.clamped_ranges (s : State) (p : SectorParams) : SectorLaw { s with params := p.clamped } := by
  have hclamp : ∀ lo hi x, lo ≤ hi → lo ≤ clampNat lo hi x ∧ clampNat lo hi x ≤ hi := fun lo hi x h => by
    rw [clampNat_eq lo hi x h]; omega
  have hle : ∀ hi x, clampNat 0 hi x ≤ hi := fun hi x => (hclamp 0 hi x (Nat.zero_le _)).2
  have hcs := hclamp 2 16 p.coarseStep (by decide)
  have hls := hclamp 1 4 p.slowStep (by decide)
  have hfs := hclamp 1 4 p.fineStep (by decide)
  have hlf := hclamp 1 16 p.fastStep (by decide)
  refine ⟨hclamp _ _ _ (by decide), hle _ _, hclamp _ _ _ (by decide),
    hle _ _, hclamp _ _ _ (by decide), hclamp _ _ _ (by decide), hle _ _,
    hclamp _ _ _ (by decide), hcs, ?_, hclamp _ _ _ (by decide), hclamp _ _ _ (by decide),
    hle _ _, hclamp _ _ _ (by decide), hls, ?_, hclamp _ _ _ (by decide),
    hclamp _ _ _ (by decide), hclamp _ _ _ (by decide), hclamp _ _ _ (by decide), hle _ _⟩
  · unfold SectorParams.clamped; dsimp only; omega
  · unfold SectorParams.clamped; dsimp only; omega

theorem ladderAt_ranges (s : State) (body : List Byte) (h : (ladderAt body).increasing = true) :
    LadderLaw { s with ladder := ladderAt body } := by
  have hclamp : ∀ hi x, clampNat 0 hi x ≤ hi := fun hi x => by rw [clampNat_eq _ _ _ (Nat.zero_le _)]; omega
  refine ⟨h, fun x hx => ?_, hclamp _ _⟩
  have hmem : ∃ n, x = clampNat 0 240 n := by
    simp only [ladderAt, Vector.toList_mk, List.mem_cons, List.not_mem_nil, or_false] at hx
    rcases hx with h | h | h | h | h | h | h | h <;> exact ⟨_, h⟩
  obtain ⟨n, rfl⟩ := hmem
  exact hclamp _ _

/-- An act leaves the parameters, or stores clamped ones, or the defaults (R162, R169). -/
theorem State.Act.params_ladder {s v : State} (h : s.Act v) :
    (SectorLaw s → SectorLaw v) ∧ (LadderLaw s → LadderLaw v) := by
  have hkept : v.kept = s.kept → (SectorLaw s → SectorLaw v) ∧ (LadderLaw s → LadderLaw v) := fun hk =>
    ⟨sectorLaw_congr (kept_params hk), ladderLaw_congr (kept_ladder hk)⟩
  cases h with
  | quiet h => exact ⟨sectorLaw_congr h.params, ladderLaw_congr h.ladder⟩
  | reset _ _ _ _ hp hl =>
    refine ⟨fun _ => sectorLaw_congr (s := State.reset) hp (by decide), fun _ => ladderLaw_congr (s := State.reset) hl (by decide)⟩
  | sector p => exact ⟨fun _ => SectorParams.clamped_ranges s p, id⟩
  | ladder body h => exact ⟨id, fun _ => ladderAt_ranges s body h⟩
  | reclass _ _ _ _ _ _ _ _ hp hl => exact ⟨sectorLaw_congr hp, ladderLaw_congr hl⟩
  | grant => exact hkept (by simp)
  | resume => exact hkept (by simp)
  | preempt => exact hkept (by simp)
  | outage => exact hkept (by simp)
  | joins => exact hkept (by simp)
  | regroup => exact hkept (by simp)
  | exhaust => exact hkept (by simp)
  | handOver => exact hkept (by simp [State.handOver])
  | serves => exact hkept rfl
  | takesOut t =>
    refine hkept ?_
    rw [State.setTerm_kept]
    unfold State.takeOut
    dsimp only
    rw [State.markStale_kept, State.setStack_kept]
    split <;> rfl

end Sys2Proof.Machine
end

section
/-! The collections law of R6, told as three rosters, is kept by every act and by a mark's counts, so by every step. -/

namespace Sys2Proof.Machine

/-! ### Rosters -/

/-- A list holds terminals of state `a` only, none of them twice; where it is `full`, it holds every one. -/
def Roster (full : Prop) (l : List TermId) (s : State) (a : TermState) : Prop :=
  l.Nodup ∧ (∀ t ∈ l, (s.term t).state = a) ∧ (full → ∀ t, (s.term t).state = a → t ∈ l)

/-- From `s` to `v` the terminal `t` passes into state `b`, and no other terminal changes its state. -/
def State.Passes (s v : State) (t : TermId) (b : TermState) : Prop :=
  ∀ u, (v.term u).state = if u = t then b else (s.term u).state

namespace Roster

variable {full : Prop} {l l' : List TermId} {s v : State} {t : TermId} {a b : TermState}

theorem perm (h : Roster full l s a) (hp : l'.Perm l) : Roster full l' s a := by
  obtain ⟨hn, hmem, hall⟩ := h
  exact ⟨hp.nodup_iff.mpr hn, fun t ht => hmem t (hp.mem_iff.mp ht), fun hf t ht => hp.mem_iff.mpr (hall hf t ht)⟩

/-- The states are as before. -/
theorem stays (h : Roster full l s a) (hst : ∀ u, (v.term u).state = (s.term u).state) : Roster full l v a := by
  unfold Roster
  simp only [hst]
  exact h

/-- The terminal that passes enters the list. -/
theorem enter (h : Roster full l s a) (hst : s.Passes v t a) (ht : (s.term t).state ≠ a) (hp : l'.Perm (t :: l)) :
    Roster full l' v a := by
  obtain ⟨hn, hmem, hall⟩ := h
  refine Roster.perm (l := t :: l) ⟨List.nodup_cons.mpr ⟨fun hm => ht (hmem t hm), hn⟩, fun u hu => ?_, fun hf u hu => ?_⟩ hp
  · rw [hst u]
    split
    · rfl
    · next hne => exact hmem u ((List.mem_cons.mp hu).resolve_left hne)
  · rw [hst u] at hu
    split at hu
    · next heq => exact heq ▸ List.mem_cons_self
    · exact List.mem_cons_of_mem _ (hall hf u hu)

/-- The terminal that passes is struck from the list. -/
theorem strike (h : Roster full l s a) (hst : s.Passes v t b) (hb : b ≠ a) : Roster full (l.filter (· ≠ t)) v a := by
  obtain ⟨hn, hmem, hall⟩ := h
  refine ⟨hn.filter _, fun u hu => ?_, fun hf u hu => ?_⟩
  · obtain ⟨hu, hne⟩ := List.mem_filter.mp hu
    rw [hst u, if_neg (by simpa using hne)]
    exact hmem u hu
  · rw [hst u] at hu
    split at hu
    · exact absurd hu hb
    · next hne => exact List.mem_filter.mpr ⟨hall hf u hu, by simpa using hne⟩

/-- The terminal that passes was not in the list and does not enter it. -/
theorem pass (h : Roster full l s a) (hst : s.Passes v t b) (ht : (s.term t).state ≠ a) (hb : b ≠ a) :
    Roster full l v a := by
  have hnot : ∀ u ∈ l, u ≠ t := fun u hu heq => ht (heq ▸ h.2.1 u hu)
  have hsame : l.filter (· ≠ t) = l := List.filter_eq_self.mpr (fun u hu => by simpa using hnot u hu)
  exact hsame ▸ h.strike hst hb

/-- The terminal that passes leaves the list. -/
theorem leave (h : Roster full l s a) (hst : s.Passes v t b) (hb : b ≠ a) (hp : l.Perm (t :: l')) :
    Roster full l' v a := by
  obtain ⟨hnot, -⟩ := List.nodup_cons.mp (hp.nodup_iff.mp h.1)
  have hsame : (t :: l').filter (· ≠ t) = l' := by
    rw [List.filter_cons_of_neg (by simp)]
    have hne : ∀ u ∈ l', u ≠ t := fun u hu heq => hnot (heq ▸ hu)
    exact List.filter_eq_self.mpr (fun u hu => by simpa using hne u hu)
  exact hsame ▸ (h.perm hp.symm).strike hst hb

/-- A terminal of the list's state taken out and put back. -/
theorem again (h : Roster full l s a) (ht : (s.term t).state = a) : Roster full (t :: l.filter (· ≠ t)) s a := by
  obtain ⟨hn, hmem, hall⟩ := h
  refine ⟨List.nodup_cons.mpr ⟨by simp, hn.filter _⟩, fun u hu => ?_, fun hf u hu => ?_⟩
  · rcases List.mem_cons.mp hu with rfl | hu
    · exact ht
    · exact hmem u (List.mem_filter.mp hu).1
  · by_cases heq : u = t
    · exact heq ▸ List.mem_cons_self
    · exact List.mem_cons_of_mem _ (List.mem_filter.mpr ⟨hall hf u hu, by simpa using heq⟩)

end Roster

/-! ### The engines' terminals -/

/-- The terminals the engines work on, in engine order. -/
def State.workers (s : State) : List TermId := allEngines.filterMap s.worker

theorem State.mem_workers (s : State) (t : TermId) : t ∈ s.workers ↔ ∃ e, s.worker e = some t := by
  simp [State.workers, List.mem_filterMap, mem_allEngines]

theorem State.worker_iff (s : State) (e : EngineId) (t : TermId) :
    s.worker e = some t ↔ (s.job e).any (fun j => j.term = t) = true := by
  simp [State.worker, Option.any_eq_true]

/-- No terminal stands twice among the engines' terminals exactly when no two engines hold one. -/
theorem State.nodup_workers (s : State) :
    s.workers.Nodup ↔ ∀ e e' t, s.worker e = some t → s.worker e' = some t → e = e' := by
  unfold State.workers
  rw [List.Nodup, List.pairwise_filterMap]
  constructor
  · intro hp e e' t he he'
    by_contra hne
    have hsymm : Std.Symm (fun e e' : EngineId => ∀ b, s.worker e = some b → ∀ b', s.worker e' = some b' → b ≠ b') :=
      ⟨fun _ _ h b hb b' hb' => (h b' hb' b hb).symm⟩
    exact hp.forall (mem_allEngines e) (mem_allEngines e') hne t he t he' rfl
  · intro hinj
    refine List.Pairwise.imp ?_ (show allEngines.Pairwise (· ≠ ·) by decide)
    rintro e e' hne b hb _ hb' rfl
    exact hne (hinj e e' b hb hb')

/-- The three collections are rosters (R6): full ones where the classes are in range (`requeued`, R75, lists the classes
0 to 3 only), and in any state rosters that may miss a terminal. -/
structure State.Placed (full : Prop) (s : State) : Prop where
  queue : Roster full s.queue s .queued
  workers : Roster full s.workers s .active
  onStack : Roster full s.onStack s .suspended

/-- The law of R6 says that the three collections are full rosters. -/
theorem collectionsLaw_iff (s : State) : CollectionsLaw s ↔ s.Placed True := by
  have hany : (∀ e e' : EngineId, (s.job e).any (fun j => (s.job e').any (fun j' => j.term = j'.term)) = true → e = e') ↔
      s.workers.Nodup := by
    rw [State.nodup_workers]
    refine forall_congr' fun e => forall_congr' fun e' => ?_
    constructor
    · intro h t he he'
      obtain ⟨j, hj, rfl⟩ := Option.map_eq_some_iff.mp he
      obtain ⟨j', hj', ht⟩ := Option.map_eq_some_iff.mp he'
      exact h (by simp [hj, hj', ht])
    · intro h hj
      simp only [Option.any_eq_true, decide_eq_true_eq] at hj
      obtain ⟨j, hj, j', hj', ht⟩ := hj
      exact h j.term (State.worker_of_job hj) (ht ▸ State.worker_of_job hj')
  have hroster : ∀ l a, Roster True l s a ↔ l.Nodup ∧ ∀ t, t ∈ l ↔ (s.term t).state = a := fun l a => by
    unfold Roster
    simp only [true_implies, iff_iff_implies_and_implies, forall_and]
  have hplaced : s.Placed True ↔
      Roster True s.queue s .queued ∧ Roster True s.workers s .active ∧ Roster True s.onStack s .suspended :=
    ⟨fun h => ⟨h.queue, h.workers, h.onStack⟩, fun h => ⟨h.1, h.2.1, h.2.2⟩⟩
  rw [hplaced, hroster, hroster, hroster]
  unfold CollectionsLaw
  rw [hany]
  simp only [State.mem_workers, State.worker_iff, State.onStack]
  tauto

/-- One engine's part of the engines' terminals. -/
theorem State.workers_perm (s : State) (e : EngineId) :
    s.workers.Perm ((s.worker e).toList ++ (allEngines.erase e).filterMap s.worker) := by
  refine ((List.perm_cons_erase (mem_allEngines e)).filterMap s.worker).trans ?_
  rw [List.filterMap_cons]
  cases s.worker e <;> exact .refl _

/-- The other engines' part does not depend on what engine `e` holds. -/
theorem State.others_congr {s v : State} {e : EngineId} {o : Option TermId}
    (hw : ∀ f, v.worker f = if f = e then o else s.worker f) :
    (allEngines.erase e).filterMap v.worker = (allEngines.erase e).filterMap s.worker := by
  refine List.filterMap_congr (fun f hf => ?_)
  have hne : f ≠ e := ((show allEngines.Nodup by decide).mem_erase_iff.mp hf).1
  rw [hw, if_neg hne]

theorem State.workers_leave {s v : State} {e : EngineId} {t : TermId} (he : s.worker e = some t)
    (hw : ∀ f, v.worker f = if f = e then none else s.worker f) : s.workers.Perm (t :: v.workers) := by
  have hs := s.workers_perm e
  have hv := v.workers_perm e
  rw [he] at hs
  rw [hw e, if_pos rfl, State.others_congr hw] at hv
  exact hs.trans (hv.symm.cons t)

theorem State.workers_enter {s v : State} {e : EngineId} {t : TermId} (he : s.worker e = none)
    (hw : ∀ f, v.worker f = if f = e then some t else s.worker f) : v.workers.Perm (t :: s.workers) := by
  have hs := s.workers_perm e
  have hv := v.workers_perm e
  rw [he] at hs
  rw [hw e, if_pos rfl, State.others_congr hw] at hv
  exact hv.trans (hs.symm.cons t)

theorem State.workers_congr {s v : State} (hw : ∀ e, v.worker e = s.worker e) : v.workers = s.workers :=
  List.filterMap_congr (fun e _ => hw e)

/-! ### What the rosters say of one terminal -/

namespace State.Placed

variable {full : Prop} {s v : State}

theorem queued (h : s.Placed full) {t : TermId} (ht : t ∈ s.queue) : (s.term t).state = .queued := h.queue.2.1 t ht

theorem active (h : s.Placed full) {e : EngineId} {t : TermId} (he : s.worker e = some t) :
    (s.term t).state = .active := h.workers.2.1 t ((s.mem_workers t).mpr ⟨e, he⟩)

theorem suspended (h : s.Placed full) {t : TermId} (ht : t ∈ s.onStack) : (s.term t).state = .suspended :=
  h.onStack.2.1 t ht

/-- Full rosters may be taken as any. -/
theorem weaken (h : s.Placed True) : s.Placed full where
  queue := ⟨h.queue.1, h.queue.2.1, fun _ => h.queue.2.2 trivial⟩
  workers := ⟨h.workers.1, h.workers.2.1, fun _ => h.workers.2.2 trivial⟩
  onStack := ⟨h.onStack.1, h.onStack.2.1, fun _ => h.onStack.2.2 trivial⟩

/-- The rosters stand where neither the states nor the collections change. -/
theorem congr (h : s.Placed full) (hst : ∀ u, (v.term u).state = (s.term u).state) (hq : v.queue = s.queue)
    (hw : ∀ e, v.worker e = s.worker e) (hk : v.onStack = s.onStack) : v.Placed full where
  queue := hq ▸ h.queue.stays hst
  workers := State.workers_congr hw ▸ h.workers.stays hst
  onStack := hk ▸ h.onStack.stays hst

end State.Placed

/-! ### Grants, resumes, preemptions -/

theorem State.grant_worker (s : State) (e : EngineId) (t : TermId) (f : EngineId) :
    (s.grant e t).worker f = if f = e then some t else s.worker f := by
  unfold State.grant
  rw [State.setJob_worker]
  simp [Job.fresh, State.leaveQueue, State.worker]

theorem State.resume_worker (s : State) (e : EngineId) (c : Context) (below : List Context) (f : EngineId) :
    (s.resume e c below).worker f = if f = e then some c.term else s.worker f := by
  unfold State.resume
  rw [State.setJob_worker]
  simp [Job.fresh, State.worker]

theorem TermRec.transit_of_state {r : TermRec} {a b : TermState} (h : r.state = a) : (r.transit a b).state = b := by
  unfold TermRec.transit
  rw [if_pos h]

theorem State.grant_placed {full : Prop} {s : State} {e : EngineId} {t : TermId} (h : s.Placed full) (ht : t ∈ s.queue)
    (he : s.worker e = none) : (s.grant e t).Placed full := by
  have hst := h.queued ht
  have hpass : s.Passes (s.grant e t) t .active := fun u => by
    rw [State.grant_term]
    split
    · exact TermRec.transit_of_state hst
    · rfl
  obtain ⟨hq, hk, -⟩ := s.grant_fields e t
  obtain ⟨hqueue, hworkers, hstack⟩ := h
  refine ⟨?_, ?_, ?_⟩
  · rw [hq]; exact hqueue.strike hpass (by decide)
  · exact hworkers.enter hpass (by simp [hst]) (State.workers_enter he (s.grant_worker e t))
  · rw [State.onStack, hk]; exact hstack.pass hpass (by simp [hst]) (by decide)

theorem State.resume_placed {full : Prop} {s : State} {e : EngineId} {c : Context} {below : List Context} (h : s.Placed full)
    (hk : s.stack = c :: below) (he : s.worker e = none) : (s.resume e c below).Placed full := by
  have htop : s.onStack = c.term :: below.map Context.term := congrArg (List.map Context.term) hk
  have hst := h.suspended (t := c.term) (by simp [htop])
  have hpass : s.Passes (s.resume e c below) c.term .active := fun u => by
    rw [State.resume_term]
    split
    · next hu => exact TermRec.transit_of_state (hu ▸ hst)
    · rfl
  obtain ⟨hq, hk', -⟩ := s.resume_fields e c below
  obtain ⟨hqueue, hworkers, hstack⟩ := h
  refine ⟨?_, ?_, ?_⟩
  · rw [hq]; exact hqueue.pass hpass (by simp [hst]) (by decide)
  · exact hworkers.enter hpass (by simp [hst]) (State.workers_enter he (s.resume_worker e c below))
  · rw [State.onStack, hk']; exact hstack.leave hpass (by decide) (.of_eq htop)

/-- A job set aside (R86 step 1): its context pushed, its terminal SUSPENDED, its engine idle. -/
def State.setAside (s : State) (e : EngineId) (j : Job) : State :=
  ((s.setStack (j.context :: s.stack)).transition j.term .active .suspended).setJob e none

@[simp] theorem State.setJob_setJob (s : State) (e : EngineId) (j j' : Option Job) :
    (s.setJob e j).setJob e j' = s.setJob e j' := by
  simp only [State.setJob, set_set_place]

theorem State.setJob_transition (s : State) (e : EngineId) (j : Option Job) (t : TermId) (a b : TermState) :
    (s.setJob e j).transition t a b = (s.transition t a b).setJob e j := by
  unfold State.transition
  rw [State.setJob_term]
  split <;> rfl

/-- What an engine held before a grant leaves no trace. -/
theorem State.setJob_grant (s : State) (e : EngineId) (j : Option Job) (t : TermId) :
    (s.setJob e j).grant e t = s.grant e t := by
  have hleave : (s.setJob e j).leaveQueue t = (s.leaveQueue t).setJob e j := rfl
  have hwrite : ∀ (x : State) r, ((x.setJob e j).setTerm t r).nextSerial = (x.setTerm t r).nextSerial.setJob e j :=
    fun _ _ => rfl
  unfold State.grant
  dsimp only
  rw [hleave, State.setJob_transition, hwrite]
  simp only [State.setJob_setJob, State.setJob_term, State.setJob_serial, State.setJob_params]

/-- A preemption sets the victim aside and grants its engine to the head (R86). -/
theorem State.preempt_eq (s : State) (e : EngineId) (j : Job) (t : TermId) :
    s.preempt e j t = (s.setAside e j).grant e t := by
  unfold State.preempt State.setAside
  rw [State.setJob_grant]

theorem State.setAside_placed {full : Prop} {s : State} {e : EngineId} {j : Job} (h : s.Placed full)
    (he : s.worker e = some j.term) : (s.setAside e j).Placed full := by
  have hst := h.active he
  have hpass : s.Passes (s.setAside e j) j.term .suspended := fun u => by
    unfold State.setAside
    rw [State.setJob_term, State.transition_term_eq, State.setStack_term]
    split
    · next hu => exact TermRec.transit_of_state (hu ▸ hst)
    · rfl
  have hworker : ∀ f, (s.setAside e j).worker f = if f = e then none else s.worker f := fun f => by
    unfold State.setAside
    rw [State.setJob_worker, State.transition_worker]
    rfl
  have hq : (s.setAside e j).queue = s.queue := by simp [State.setAside]
  have hk : (s.setAside e j).onStack = j.term :: s.onStack := by simp [State.setAside, State.onStack, Job.context]
  obtain ⟨hqueue, hworkers, hstack⟩ := h
  refine ⟨?_, ?_, ?_⟩
  · rw [hq]; exact hqueue.pass hpass (by simp [hst]) (by decide)
  · exact hworkers.leave hpass (by decide) (State.workers_leave he hworker)
  · exact hstack.enter hpass (by simp [hst]) (.of_eq hk)

theorem State.preempt_placed {full : Prop} {s : State} {e : EngineId} {j : Job} {t : TermId} (h : s.Placed full)
    (ht : t ∈ s.queue) (he : s.worker e = some j.term) : (s.preempt e j t).Placed full := by
  rw [State.preempt_eq]
  refine State.grant_placed (State.setAside_placed h he) ?_ ?_
  · simpa [State.setAside] using ht
  · simp [State.setAside, State.setJob_worker]

/-! ### A terminal leaves its engine, joins the queue, or is taken out -/

theorem State.exhaust_placed {full : Prop} {s : State} {e : EngineId} {j : Job} (h : s.Placed full)
    (he : s.worker e = some j.term) : (s.exhaust e j).Placed full := by
  have hst := h.active he
  obtain ⟨-, -, hjob, hjobs, -, hq, hk⟩ := s.exhaust_spec e j hst
  have hworker : ∀ f, (s.exhaust e j).worker f = if f = e then none else s.worker f := fun f => by
    unfold State.worker
    by_cases hf : f = e
    · rw [hf, hjob, if_pos rfl]; rfl
    · rw [hjobs f hf, if_neg hf]
  obtain ⟨b, hb, hpass⟩ : ∃ b, (b = .backoff ∨ b = .held) ∧ s.Passes (s.exhaust e j) j.term b := by
    by_cases hr : min ((s.term j.term).retries + 1) 15 ≤ s.params.retryLimit
    · refine ⟨.backoff, .inl rfl, fun u => ?_⟩
      rw [State.exhaust_term]
      split <;> simp [TermRec.spent, TermRec.transit, hr, hst]
    · refine ⟨.held, .inr rfl, fun u => ?_⟩
      rw [State.exhaust_term]
      split <;> simp [TermRec.spent, TermRec.transit, hr, hst]
  obtain ⟨hqueue, hworkers, hstack⟩ := h
  refine ⟨?_, ?_, ?_⟩
  · rw [hq]; exact hqueue.pass hpass (by simp [hst]) (by rcases hb with rfl | rfl <;> decide)
  · exact hworkers.leave hpass (by rcases hb with rfl | rfl <;> decide) (State.workers_leave he hworker)
  · rw [State.onStack, hk]; exact hstack.pass hpass (by simp [hst]) (by rcases hb with rfl | rfl <;> decide)

theorem State.handOver_placed {full : Prop} {s : State} {e : EngineId} {t : TermId} (h : s.Placed full)
    (he : s.worker e = some t) : (s.handOver e t).Placed full := by
  have hst := h.active he
  have hpass : s.Passes (s.handOver e t) t .serving := fun u => by
    rw [State.handOver_term]
    split
    · exact TermRec.transit_of_state hst
    · rfl
  have hworker : ∀ f, (s.handOver e t).worker f = if f = e then none else s.worker f := fun f => by
    unfold State.handOver
    rw [State.setJob_worker, State.setTerm_worker, State.transition_worker]
    rfl
  have hq : (s.handOver e t).queue = s.queue := by simp [State.handOver]
  have hk : (s.handOver e t).stack = s.stack := by simp [State.handOver]
  obtain ⟨hqueue, hworkers, hstack⟩ := h
  refine ⟨?_, ?_, ?_⟩
  · rw [hq]; exact hqueue.pass hpass (by simp [hst]) (by decide)
  · exact hworkers.leave hpass (by decide) (State.workers_leave he hworker)
  · rw [State.onStack, hk]; exact hstack.pass hpass (by simp [hst]) (by decide)

theorem State.rejoin_placed {full : Prop} {s : State} {t : TermId} {r : TermRec} (h : s.Placed full)
    (hr : (s.term t).Joins r) : (s.rejoin t r).Placed full := by
  obtain ⟨hqueued, hnq, hna, hns⟩ := hr.state
  have hpass : s.Passes (s.rejoin t r) t .queued := fun u => by
    rw [State.rejoin_term]
    split
    · exact hqueued
    · rfl
  obtain ⟨hqueue, hworkers, hstack⟩ := h
  refine ⟨hqueue.enter hpass hnq (s.rejoin_queue_perm t r), ?_, ?_⟩
  · rw [State.workers_congr (State.worker_congr (s.rejoin_engines t r))]
    exact hworkers.pass hpass hna (by decide)
  · rw [State.onStack, s.rejoin_stack t r]
    exact hstack.pass hpass hns (by decide)

/-- RETIRE and BAR take the terminal out of all three collections (R16, R17, R88, R114). -/
theorem State.takeOut_fields (s : State) (t : TermId) :
    (s.takeOut t).st.queue = s.queue.filter (· ≠ t) ∧
    (s.takeOut t).st.stack = s.stack.filter (fun c => c.term ≠ t) ∧
    (s.takeOut t).st.engines = mapPlaces (dropJobOf t) s.engines := by
  unfold State.takeOut
  dsimp only
  split <;> exact ⟨rfl, rfl, rfl⟩

theorem State.takeOut_workers (s : State) (t : TermId) : (s.takeOut t).st.workers = s.workers.filter (· ≠ t) := by
  unfold State.workers
  rw [List.filter_filterMap]
  refine List.filterMap_congr (fun e _ => ?_)
  unfold State.worker State.job
  rw [(s.takeOut_fields t).2.2, mapPlaces_get]
  cases s.engines.get e with
  | none => rfl
  | some j => by_cases hj : j.term = t <;> simp [dropJobOf, hj, Option.filter]

theorem State.takeOut_onStack (s : State) (t : TermId) : (s.takeOut t).st.onStack = s.onStack.filter (· ≠ t) := by
  unfold State.onStack
  rw [(s.takeOut_fields t).2.1, List.filter_map]
  rfl

theorem State.takesOut_placed {full : Prop} {s : State} {t : TermId} {r : TermRec} (h : s.Placed full)
    (hr : r.state = .unused ∨ r.state = .barred) : ((s.takeOut t).st.setTerm t r).Placed full := by
  have hpass : s.Passes ((s.takeOut t).st.setTerm t r) t r.state := fun u => by
    rw [State.setTerm_term, State.takeOut_term]
    split <;> rfl
  obtain ⟨hqueue, hworkers, hstack⟩ := h
  have hne : ∀ a, a = .queued ∨ a = .active ∨ a = .suspended → r.state ≠ a := by
    rintro a (rfl | rfl | rfl) <;> rcases hr with h | h <;> simp [h]
  refine ⟨?_, ?_, ?_⟩
  · rw [State.setTerm_queue, (s.takeOut_fields t).1]
    exact hqueue.strike hpass (hne _ (.inl rfl))
  · rw [State.workers_congr (fun e => State.setTerm_worker _ t r e), State.takeOut_workers]
    exact hworkers.strike hpass (hne _ (.inr (.inl rfl)))
  · exact (State.takeOut_onStack s t) ▸ hstack.strike hpass (hne _ (.inr (.inr rfl)))

/-! ### Outage entry -/

/-- The queue made at outage entry holds listed and queued terminals only (R75). -/
theorem State.mem_of_mem_requeued {s : State} {l : List TermId} {u : TermId} (h : u ∈ s.requeued l) :
    u ∈ l ∨ u ∈ s.queue := by
  unfold State.requeued at h
  simp only [List.mem_flatMap, List.mem_append, List.mem_filter] at h
  obtain ⟨c, -, (⟨h, -⟩ | ⟨h, -⟩) | ⟨h, -⟩⟩ := h
  · exact .inl h
  · exact .inr h
  · exact .inr h

/-- It holds every one of them where the classes are in range. -/
theorem State.mem_requeued (s : State) (l : List TermId) (u : TermId) (hc : (s.term u).cls ≤ 3) :
    u ∈ s.requeued l ↔ u ∈ l ∨ u ∈ s.queue := by
  refine ⟨State.mem_of_mem_requeued, fun h => ?_⟩
  have hmem : (s.term u).cls ∈ [0, 1, 2, 3] := by
    simp only [List.mem_cons, List.not_mem_nil, or_false]; omega
  unfold State.requeued
  simp only [List.mem_flatMap, List.mem_append, List.mem_filter, decide_eq_true_eq, Bool.not_eq_true']
  rcases h with h | h
  · exact ⟨_, hmem, .inl (.inl ⟨h, rfl⟩)⟩
  · by_cases hh : (s.term u).heard = true
    · exact ⟨_, hmem, .inl (.inr ⟨h, rfl, hh⟩)⟩
    · exact ⟨_, hmem, .inr ⟨h, rfl, by simpa using hh⟩⟩

theorem State.nodup_requeued (s : State) (l : List TermId) (hl : l.Nodup) (hq : s.queue.Nodup)
    (hdisj : ∀ u ∈ l, u ∉ s.queue) : (s.requeued l).Nodup := by
  unfold State.requeued
  rw [List.nodup_flatMap]
  constructor
  · intro c _
    refine List.Nodup.append (List.Nodup.append (hl.filter _) (hq.filter _) ?_) (hq.filter _) ?_
    · intro u hu hu'
      exact hdisj u (List.mem_filter.mp hu).1 (List.mem_filter.mp hu').1
    · intro u hu hu'
      simp only [List.mem_append, List.mem_filter, decide_eq_true_eq, Bool.not_eq_true'] at hu hu'
      obtain ⟨hq', -, hheard⟩ := hu'
      rcases hu with ⟨h, -⟩ | ⟨-, -, h⟩
      · exact hdisj u h hq'
      · rw [hheard] at h; cases h
  · refine List.Pairwise.imp ?_ (show [0, 1, 2, 3].Pairwise (· ≠ ·) by decide)
    intro c d hcd u hu hu'
    simp only [List.mem_append, List.mem_filter, decide_eq_true_eq, Bool.not_eq_true'] at hu hu'
    exact hcd (by rcases hu with (⟨-, h⟩ | ⟨-, h, -⟩) | ⟨-, h, -⟩ <;>
      rcases hu' with (⟨-, h'⟩ | ⟨-, h', -⟩) | ⟨-, h', -⟩ <;> exact h.symm.trans h')

/-- The states after outage entry: what an engine or the stack held is QUEUED (R139). -/
theorem State.enterOutage_state {full : Prop} {s : State} (h : s.Placed full) (u : TermId) :
    (s.enterOutage.term u).state = if u ∈ s.workers ∨ u ∈ s.onStack then .queued else (s.term u).state := by
  have hab : (s.abandonAll.term u).state =
      if u ∈ s.workers ∨ u ∈ s.onStack then .queued else (s.term u).state := by
    rw [State.abandonAll_term]
    simp only [← State.mem_workers]
    by_cases hw : u ∈ s.workers
    · have ha := h.workers.2.1 u hw
      simp [hw, TermRec.transit, ha]
    · by_cases hk : u ∈ s.onStack
      · have hs := h.suspended hk
        simp [hw, hk, TermRec.transit, hs]
      · simp [hw, hk]
  rw [State.enterOutage_term, ← hab]
  split <;> rfl

theorem State.abandonAll_cls (s : State) (u : TermId) : (s.abandonAll.term u).cls = (s.term u).cls := by
  have htransit : ∀ (r : TermRec) a b, (r.transit a b).cls = r.cls := fun r a b => by
    unfold TermRec.transit; split <;> rfl
  rw [State.abandonAll_term]
  split <;> split <;> simp only [htransit]

theorem State.enterOutage_placed {full : Prop} {s : State} (hc : full → ∀ u, (s.term u).cls ≤ 3) (h : s.Placed full) :
    s.enterOutage.Placed full := by
  have hstate := State.enterOutage_state h
  obtain ⟨⟨hqn, hqm, hqa⟩, ⟨hwn, hwm, hwa⟩, ⟨hkn, hkm, hka⟩⟩ := h
  obtain ⟨hq, hk, hjob⟩ := s.abandonAll_rest
  have hqueue : s.enterOutage.queue = s.abandonAll.requeued (s.workers ++ s.onStack) := by
    rw [State.enterOutage_eq]; rfl
  have hstack : s.enterOutage.onStack = [] := by
    rw [State.enterOutage_eq]; exact congrArg (List.map Context.term) hk
  have hworkers : s.enterOutage.workers = [] := by
    refine List.filterMap_eq_nil_iff.mpr (fun e _ => ?_)
    rw [State.enterOutage_eq]
    exact congrArg (Option.map Job.term) (hjob e)
  refine ⟨?_, ?_, ?_⟩
  · rw [hqueue]
    refine ⟨State.nodup_requeued _ _ (List.Nodup.append hwn hkn (fun u hu hu' => ?_)) (hq ▸ hqn) (fun u hu hu' => ?_),
      fun u hu => ?_, fun hf u hu => ?_⟩
    · have hst := (hwm u hu).symm.trans (hkm u hu'); cases hst
    · have hst := hqm u (hq ▸ hu')
      rcases List.mem_append.mp hu with hu | hu
      · rw [hwm u hu] at hst; cases hst
      · rw [hkm u hu] at hst; cases hst
    · rw [hstate]
      rcases State.mem_of_mem_requeued hu with hu | hu
      · rw [if_pos (List.mem_append.mp hu)]
      · split
        · rfl
        · exact hqm u (hq ▸ hu)
    · refine (State.mem_requeued _ _ _ (by rw [State.abandonAll_cls]; exact hc hf u)).mpr ?_
      rw [hstate] at hu
      split at hu
      · next hm => exact .inl (List.mem_append.mpr hm)
      · exact .inr (hq ▸ hqa hf u hu)
  · rw [hworkers]
    refine ⟨List.nodup_nil, nofun, fun hf u hu => ?_⟩
    rw [hstate] at hu
    split at hu
    · cases hu
    · next hm => exact absurd (.inl (hwa hf u hu)) hm
  · rw [hstack]
    refine ⟨List.nodup_nil, nofun, fun hf u hu => ?_⟩
    rw [hstate] at hu
    split at hu
    · cases hu
    · next hm => exact absurd (.inr (hka hf u hu)) hm

/-! ### Acts and marks -/

/-- Every act keeps the rosters, the full ones where the classes are in range. -/
theorem State.Act.placed {full : Prop} {s v : State} (h : s.Act v) (hp : full → ∀ u, (s.term u).cls ≤ 3)
    (hc : s.Placed full) : v.Placed full := by
  have hwrite : ∀ (t : TermId) (r : TermRec), r.state = (s.term t).state → ∀ u,
      ((s.setTerm t r).term u).state = (s.term u).state := fun t r hr u => by
    rw [State.setTerm_term]
    split
    · next hu => exact hu ▸ hr
    · rfl
  cases h with
  | quiet h => exact hc.congr (fun u => (h.records u).place.1) h.queue h.worker h.onStack
  | reset ht hq hk he =>
    have hreset : CollectionsLaw State.reset := by decide
    exact ((collectionsLaw_iff _).mp hreset).weaken.congr (fun u => by rw [State.term_congr ht]) hq (State.worker_congr he)
      (congrArg (List.map Context.term) hk)
  | sector | ladder => exact ⟨hc.queue, hc.workers, hc.onStack⟩
  | grant e t rest hq he => exact State.grant_placed hc (by simp [hq]) (by simp [State.worker, he])
  | resume e c below hk he => exact State.resume_placed hc hk (by simp [State.worker, he])
  | preempt e j t rest hq he => exact State.preempt_placed hc (by simp [hq]) (State.worker_of_job he)
  | outage => exact State.enterOutage_placed hp hc
  | joins t r h => exact State.rejoin_placed hc h
  | regroup t cls heard hst =>
    have hst' := hwrite t { s.term t with cls := cls, heard := heard } rfl
    exact ⟨((hc.queue.again hst).stays hst').perm (State.joinEnd_perm _ t), hc.workers.stays hst', hc.onStack.stays hst'⟩
  | reclass t cls _ _ ht hq hk hw =>
    exact hc.congr (fun u => by rw [State.term_congr ht, hwrite t { s.term t with cls := cls } rfl]) hq hw hk
  | exhaust e j he => exact State.exhaust_placed hc he
  | handOver e t he => exact State.handOver_placed hc he
  | serves t body hst =>
    have hpass : s.Passes (s.setTerm t { provisionedRec body with
        state := .serving, up := upAt body, down := downAt body, holdOff := s.params.holdOffLoad }) t .serving := fun u => by
      rw [State.setTerm_term]; split <;> rfl
    exact ⟨hc.queue.pass hpass (by simp [hst]) (by decide), hc.workers.pass hpass (by simp [hst]) (by decide),
      hc.onStack.pass hpass (by simp [hst]) (by decide)⟩
  | takesOut t r _ hr =>
    refine State.takesOut_placed hc ?_
    rcases hr with rfl | rfl
    · exact .inl rfl
    · exact .inr rfl

theorem State.countMark_worker (s : State) (slip : Bool) (n : FrameNo) (e : EngineId) :
    (s.countMark slip n).worker e = s.worker e := by
  have hterm : ∀ j : Job, (if slip then j.slipped n else j).countMark.term = j.term := fun j => by
    unfold Job.countMark Job.slipped
    cases slip
    · rfl
    · cases j.phase <;> rfl
  unfold State.worker State.job State.countMark
  rw [mapPlaces_get, Option.map_map]
  exact congrArg (fun f => Option.map f (s.engines.get e)) (funext hterm)

/-- The counts of a mark move no terminal. -/
theorem State.countMark_placed {full : Prop} {s : State} (slip : Bool) (n : FrameNo) (hc : s.Placed full) :
    (s.countMark slip n).Placed full := by
  refine hc.congr (fun u => ?_) rfl (s.countMark_worker slip n) rfl
  rw [State.countMark_term]
  exact (TermRec.Rewrites.powerMark (p := s.params) slip n).place.1

/-- Every step keeps the law of R6, with the ranges of R1. -/
theorem step_collections {s v : State} (h : step s = .next v) (hp : ProvisionedLaw s) (hc : CollectionsLaw s) :
    ProvisionedLaw v ∧ CollectionsLaw v := by
  rw [collectionsLaw_iff] at hc ⊢
  exact (step_events h).keeps_of_count (P := fun s => ProvisionedLaw s ∧ s.Placed True)
    (fun _ _ ha hs => ⟨ha.provisioned hs.1, ha.placed (fun _ u => (hs.1 u).1) hs.2⟩)
    (fun _ slip n hs => ⟨State.countMark_provisioned slip n hs.1, State.countMark_placed slip n hs.2⟩) ⟨hp, hc⟩

/-- Settles O53: every act and every mark's counts keep the three collections full rosters. -/
theorem stepKeepsCollections : Obligations.StepKeepsCollections := fun _ _ hp hc h => (step_collections h hp hc).2

end Sys2Proof.Machine
end

section
/-! The backoff remaining is above 0 exactly in BACKOFF (R4): every act keeps both halves; the counts of a mark keep one
half, and the mark's expiries restore the other. -/

namespace Sys2Proof.Machine

/-- A backoff remaining above 0 stands in BACKOFF only. -/
def TermRec.BackoffPlaced (r : TermRec) : Prop := 0 < r.backoff → r.state = .backoff

/-- In BACKOFF the backoff remaining is above 0. -/
def TermRec.BackoffRuns (r : TermRec) : Prop := r.state = .backoff → 0 < r.backoff

/-- From one record to the other both halves of the backoff's law are kept. -/
def TermRec.Steady (r r' : TermRec) : Prop :=
  (r.BackoffPlaced → r'.BackoffPlaced) ∧ (r.BackoffPlaced → r.BackoffRuns → r'.BackoffRuns)

namespace TermRec.Steady

variable {r r' r'' : TermRec}

theorem refl : Steady r r := ⟨id, fun _ => id⟩

theorem trans (h : Steady r r') (h' : Steady r' r'') : Steady r r'' :=
  ⟨fun hp => h'.1 (h.1 hp), fun hp hr => h'.2 (h.1 hp) (h.2 hp hr)⟩

theorem of_eq (hst : r'.state = r.state) (hb : r'.backoff = r.backoff) : Steady r r' := by
  unfold Steady BackoffPlaced BackoffRuns
  rw [hst, hb]
  exact ⟨id, fun _ => id⟩

/-- Out of BACKOFF with nothing left to count. -/
theorem of_idle (hst : r'.state ≠ .backoff) (hb : r.BackoffPlaced → r'.backoff = 0) : Steady r r' :=
  ⟨fun hp h => absurd (hb hp) (by omega), fun _ _ h => absurd h hst⟩

theorem transit {a b : TermState} (ha : a ≠ .backoff) (hb : b ≠ .backoff) : Steady r (r.transit a b) := by
  unfold TermRec.transit
  split
  · next hst =>
    refine of_idle hb (fun hp => ?_)
    have h0 : r.backoff = 0 := Nat.eq_zero_of_not_pos (fun h => ha (hst ▸ hp h))
    simp [h0]
  · exact refl

theorem transit_if {c : Prop} [Decidable c] {a b : TermState} (ha : a ≠ .backoff) (hb : b ≠ .backoff) :
    Steady r (if c then r.transit a b else r) := by
  split
  · exact transit ha hb
  · exact refl

theorem joins (h : r.Joins r') : Steady r r' := by
  refine of_idle (by rw [h.state.1]; decide) (fun hp => ?_)
  have hzero : r.state ≠ .backoff → r.backoff = 0 := fun hne => Nat.eq_zero_of_not_pos (fun hb => hne (hp hb))
  cases h with
  | provisioned => rfl
  | lost _ _ hst => exact hzero (by simp [hst])
  | released =>
    dsimp only
    split
    · rfl
    · next hne => exact hzero hne

/-- The exhausted job of an ACTIVE terminal leaves a backoff that runs, or HELD (R101, R102). -/
theorem spent {p : SectorParams} (hst : r.state = .active) (hbase : 8 ≤ p.backoffBase) : Steady r (r.spent p) := by
  unfold TermRec.spent TermRec.transit
  dsimp only
  rw [if_pos hst]
  split
  · refine ⟨fun _ _ => rfl, fun _ _ _ => ?_⟩
    have hpow : 0 < p.backoffBase * 2 ^ min (min (r.retries + 1) 15 - 1) 5 := Nat.mul_pos (by omega) (by positivity)
    exact lt_min hpow (by decide)
  · refine of_idle (by simp) (fun hp => ?_)
    have h0 : r.backoff = 0 := Nat.eq_zero_of_not_pos (fun h => by rw [hp h] at hst; cases hst)
    simp [h0]

end TermRec.Steady

/-- Every act keeps both halves in every record. -/
theorem State.Act.steady {s v : State} (h : s.Act v) (hp : SectorLaw s) (hc : s.Placed False) (u : TermId) :
    TermRec.Steady (s.term u) (v.term u) := by
  have hwrite : ∀ {t : TermId} {r : TermRec}, TermRec.Steady (s.term t) r →
      TermRec.Steady (s.term u) (if u = t then r else s.term u) := fun hr => by
    split
    · next hu => exact hu ▸ hr
    · exact .refl
  have hheard : ∀ {r r' : TermRec}, TermRec.Steady r r' → TermRec.Steady r { r' with heard := false } :=
    fun h => h.trans (.of_eq rfl rfl)
  cases h with
  | quiet h => exact .of_eq (h.records u).place.1 (h.records u).place.2.2.2.1
  | reset ht =>
    rw [State.term_congr ht, State.reset_term]
    exact .of_idle (by decide) (fun _ => rfl)
  | sector | ladder => exact .refl
  | grant e t =>
    rw [State.grant_term]
    exact hwrite (hheard (.transit (by decide) (by decide)))
  | resume e c =>
    rw [State.resume_term]
    exact .transit_if (by decide) (by decide)
  | preempt e j t =>
    rw [State.preempt_term]
    split
    · next hu =>
      subst hu
      exact hheard ((TermRec.Steady.transit_if (by decide) (by decide)).trans (.transit (by decide) (by decide)))
    · exact .transit_if (by decide) (by decide)
  | outage =>
    have habandon : TermRec.Steady (s.term u) (s.abandonAll.term u) := by
      rw [State.abandonAll_term]
      split
      · exact (TermRec.Steady.transit_if (by decide) (by decide)).trans (.transit (by decide) (by decide))
      · exact .transit_if (by decide) (by decide)
    rw [State.enterOutage_term]
    split
    · exact hheard habandon
    · exact habandon
  | joins t r h =>
    rw [State.rejoin_term]
    exact hwrite (.joins h)
  | regroup t cls heard =>
    show TermRec.Steady (s.term u) ((s.setTerm t _).term u)
    rw [State.setTerm_term]
    exact hwrite (.of_eq rfl rfl)
  | reclass t cls _ _ ht =>
    rw [State.term_congr ht, State.setTerm_term]
    exact hwrite (.of_eq rfl rfl)
  | exhaust e j he =>
    obtain ⟨-, -, -, -, -, -, -, -, -, -, -, -, -, ⟨hbase, -⟩, -⟩ := hp
    rw [State.exhaust_term]
    exact hwrite (.spent (hc.active he) hbase)
  | handOver e t =>
    rw [State.handOver_term]
    exact hwrite ((TermRec.Steady.transit (by decide) (by decide)).trans (.of_eq rfl rfl))
  | serves t body =>
    rw [State.setTerm_term]
    exact hwrite (.of_idle (by simp) (fun _ => rfl))
  | takesOut t r _ hr =>
    rw [State.setTerm_term, State.takeOut_term]
    refine hwrite ?_
    rcases hr with rfl | rfl
    · exact .of_idle (by decide) (fun _ => rfl)
    · exact .of_idle (by simp) (fun _ => rfl)

/-- The counts of a mark lower a backoff in BACKOFF only (R103). -/
theorem TermRec.countMark_placed {r : TermRec} (h : r.BackoffPlaced) : r.countMark.BackoffPlaced := by
  unfold TermRec.BackoffPlaced TermRec.countMark at *
  dsimp only
  split
  · next hst => exact fun _ => hst
  · exact h

/-! ### The law of the counters, kept by every step -/

/-- What the counters' law rests on, with the half of it that stands in the middle of a mark too. -/
structure State.Counting (s : State) : Prop where
  sector : SectorLaw s
  placedIn : s.Placed False
  counted : ∀ t, (s.term t).Counted
  placed : ∀ t, (s.term t).BackoffPlaced

theorem State.Counting.holdOff {s : State} (h : s.Counting) : s.params.holdOffLoad ≤ 65535 := by
  obtain ⟨-, -, -, -, -, -, -, -, -, -, -, -, -, -, -, -, -, -, -, -, hload⟩ := h.sector
  exact hload

theorem State.Counting.act {s v : State} (h : s.Counting) (ha : s.Act v) : v.Counting where
  sector := ha.params_ladder.1 h.sector
  placedIn := ha.placed False.elim h.placedIn
  counted := ha.counted h.holdOff h.counted
  placed t := (ha.steady h.sector h.placedIn t).1 (h.placed t)

theorem State.Counting.countMark {s : State} (h : s.Counting) (slip : Bool) (n : FrameNo) :
    (s.countMark slip n).Counting where
  sector := sectorLaw_congr (s := s) rfl h.sector
  placedIn := State.countMark_placed slip n h.placedIn
  counted t := by
    rw [State.countMark_term]
    exact TermRec.countMark_counted
      ((TermRec.Rewrites.powerMark (p := s.params) slip n).keeps (fun _ _ hr => hr.counted h.holdOff) (h.counted t))
  placed t := by
    rw [State.countMark_term]
    have hplace := (TermRec.Rewrites.powerMark (p := s.params) (r := s.term t) slip n).place
    exact TermRec.countMark_placed ((TermRec.Steady.of_eq hplace.1 hplace.2.2.2.1).1 (h.placed t))

/-- In every record the backoff runs. -/
def State.Running (s : State) : Prop := ∀ t, (s.term t).BackoffRuns

theorem State.Acts.running {s v : State} (h : s.Acts v) (hs : s.Counting ∧ s.Running) : v.Counting ∧ v.Running :=
  h.keeps (P := fun s => s.Counting ∧ s.Running)
    (fun _ _ ha hs => ⟨hs.1.act ha, fun t => (ha.steady hs.1.sector hs.1.placedIn t).2 (hs.1.placed t) (hs.2 t)⟩) hs

theorem State.running_of_unspent {s : State} (h : ∀ u, s.backoffOver u = false) : s.Running := fun t hst => by
  have hover := h t
  simp only [State.backoffOver, hst, decide_true, Bool.true_and, decide_eq_false_iff_not] at hover
  omega

theorem step_running {s v : State} (h : step s = .next v) (hs : s.Counting ∧ s.Running) : v.Counting ∧ v.Running :=
  (step_events h).keeps (P := fun s => s.Counting ∧ s.Running)
    (fun _ _ ha hs => State.Acts.running (.act .refl ha) hs)
    (fun _ _ _ slip n hends hspent hrest ha =>
      hrest.running ⟨hends.keeps (fun _ _ hact hs => hs.act hact) (ha.1.countMark slip n), State.running_of_unspent hspent⟩)
    hs

/-! ### The ranges, kept by every step -/

theorem step_provisioned {s v : State} (h : step s = .next v) (hs : ProvisionedLaw s) : ProvisionedLaw v :=
  (step_events h).keeps_of_count (fun _ _ ha hs => ha.provisioned hs)
    (fun _ slip n hs => State.countMark_provisioned slip n hs) hs

theorem step_fits {s v : State} (h : step s = .next v) (hp : ProvisionedLaw s) (hs : RecordLaw s) : RecordLaw v :=
  ((step_events h).keeps_of_count (P := fun s => ProvisionedLaw s ∧ RecordLaw s)
    (fun _ _ ha hs => ⟨ha.provisioned hs.1, ha.fits hs.1 hs.2⟩)
    (fun _ slip n hs => ⟨State.countMark_provisioned slip n hs.1, State.countMark_fits slip n hs.1 hs.2⟩) ⟨hp, hs⟩).2

theorem step_sector {s v : State} (h : step s = .next v) (hs : SectorLaw s) : SectorLaw v :=
  (step_events h).keeps_of_count (fun _ _ ha => ha.params_ladder.1) (fun _ _ _ => sectorLaw_congr rfl) hs

theorem step_ladder {s v : State} (h : step s = .next v) (hs : LadderLaw s) : LadderLaw v :=
  (step_events h).keeps_of_count (fun _ _ ha => ha.params_ladder.2) (fun _ _ _ => ladderLaw_congr rfl) hs

/-- The law of R4 is that of the ranges and the two halves of the backoff's. -/
theorem counterLaw_iff (s : State) :
    CounterLaw s ↔ (∀ t, (s.term t).Counted) ∧ (∀ t, (s.term t).BackoffPlaced) ∧ s.Running := by
  unfold CounterLaw State.Running TermRec.Counted TermRec.BackoffPlaced TermRec.BackoffRuns
  simp only [iff_iff_implies_and_implies, forall_and]
  tauto

theorem step_counters {s v : State} (h : step s = .next v) (hc : CollectionsLaw s) (hp : SectorLaw s)
    (hs : CounterLaw s) : CounterLaw v := by
  obtain ⟨hcounted, hplaced, hruns⟩ := (counterLaw_iff s).mp hs
  obtain ⟨hcounting, hruns'⟩ :=
    step_running h ⟨⟨hp, ((collectionsLaw_iff s).mp hc).weaken, hcounted, hplaced⟩, hruns⟩
  exact (counterLaw_iff v).mpr ⟨hcounting.counted, hcounting.placed, hruns'⟩

/-- Settles O57: what an act or a mark's counts do to a record keeps its ranges; SET SECTOR and SET LADDER store values in
range. -/
theorem stepKeepsRanges : Obligations.StepKeepsRanges := fun _ _ h =>
  ⟨step_provisioned h, step_fits h, step_sector h, step_ladder h, step_counters h⟩

end Sys2Proof.Machine
end

section
/-! Requests of good CRC in an empty buffer: the checks of R8, the replies that change nothing, PROVISION as SERVING; the
power-on values, and what the views of the laws mean. -/

namespace Sys2Proof.Machine

/-! ### A request in an empty buffer -/

/-- The state with a request of good CRC in the request buffer (R156). -/
def State.received (s : State) (k : ReqKind) (tag : Byte) (body : List Byte) : State :=
  { s with cpRx := .hunting, reqBuf := some ⟨⟨k.code, tag, body⟩, true⟩ }

@[simp] theorem State.received_term (s : State) (k : ReqKind) (tag : Byte) (body : List Byte) (u : TermId) :
    (s.received k tag body).term u = s.term u := rfl

theorem exec_command (k : ReqKind) (tag : Byte) (body : List Byte) (s : State) :
    exec (k.command tag body) s = .next (s.takeRequest k tag body) := by
  cases k <;> rfl

/-- A request of the right length is carried out and answered in the same event (R158, R159). -/
theorem exec_carried {s : State} {k : ReqKind} {tag : Byte} {body : List Byte} (h : s.reqBuf = none)
    (hl : body.length = k.bodyLen) {v : State} {st : Status} {contents : List Byte}
    (hc : carry k body (s.received k tag body) = ⟨v, st, contents⟩) :
    exec (k.command tag body) s = .next (v.answer ⟨tag, k.code, st, contents⟩) := by
  have hcarry : carry k body { s with cpRx := .hunting, reqBuf := some ⟨⟨k.code, tag, body⟩, true⟩ } =
      ⟨v, st, contents⟩ := hc
  rw [exec_command, State.takeRequest_carried s k tag body h hl, hcarry]

/-- A request that changes nothing is answered, and nothing else differs. -/
theorem exec_replied {s : State} {k : ReqKind} {tag : Byte} {body : List Byte} (h : s.reqBuf = none)
    (hl : body.length = k.bodyLen) {st : Status} {contents : List Byte}
    (hc : carry k body (s.received k tag body) = ⟨s.received k tag body, st, contents⟩) :
    exec (k.command tag body) s = .next (s.replied k tag body st contents) :=
  exec_carried h hl hc

/-! ### The checks on the terminal number (R8) -/

theorem numberOf_le (t : TermId) : numberOf t ≤ 64 := t.isLt

theorem termOf_numberOf (t : TermId) : termOf (numberOf t) = some t := by
  unfold termOf numberOf
  rw [dif_pos (by omega)]
  rfl

theorem State.onTerminal_above (s : State) {n : Nat} (f : TermId → Answer) (h : 64 < n) :
    s.onTerminal n f = .refuse s .badTerminal := if_pos h

theorem State.onTerminal_zero (s : State) {n : Nat} (f : TermId → Answer) (h : n = 0) :
    s.onTerminal n f = .done s := by subst h; rfl

theorem State.onTerminal_of (s : State) {n : Nat} {t : TermId} (f : TermId → Answer) (h : n = numberOf t) :
    s.onTerminal n f = f t := by
  unfold State.onTerminal
  rw [h, if_neg (Nat.not_lt.mpr (numberOf_le t)), termOf_numberOf]

theorem State.onProvisioned_unused (s : State) {n : Nat} {t : TermId} (f : TermId → Answer) (h : n = numberOf t)
    (hst : (s.term t).state = .unused) : s.onProvisioned n f = .refuse s .notProvisioned :=
  (s.onTerminal_of _ h).trans (if_pos hst)

theorem State.onProvisioned_of (s : State) {n : Nat} {t : TermId} (f : TermId → Answer) (h : n = numberOf t)
    (hst : (s.term t).state ≠ .unused) : s.onProvisioned n f = f t :=
  (s.onTerminal_of _ h).trans (if_neg hst)

/-- The requests that write a terminal (R8). -/
def ReqKind.writesTerminal (k : ReqKind) : Prop := k ∈ [ReqKind.provision, .amend, .retire, .bar, .unbar, .restoreNow]

/-- A request that writes does nothing but what it does on the terminal named. -/
theorem carry_onTerminal {k : ReqKind} (hk : k.writesTerminal) (body : List Byte) (s : State) :
    ∃ f, carry k body s = s.onTerminal (numAt body 0) f := by
  simp only [ReqKind.writesTerminal, List.mem_cons, List.not_mem_nil, or_false] at hk
  rcases hk with rfl | rfl | rfl | rfl | rfl | rfl <;> exact ⟨_, rfl⟩

/-- A request that writes, but PROVISION, is refused where the record is UNUSED. -/
theorem carry_unused {k : ReqKind} (hk : k.writesTerminal) (hp : k ≠ .provision) {body : List Byte} {s : State} {t : TermId}
    (hn : numAt body 0 = numberOf t) (hst : (s.term t).state = .unused) :
    carry k body s = .refuse s .notProvisioned := by
  simp only [ReqKind.writesTerminal, List.mem_cons, List.not_mem_nil, or_false] at hk
  rcases hk with rfl | rfl | rfl | rfl | rfl | rfl
  · exact absurd rfl hp
  all_goals exact s.onProvisioned_unused _ hn hst

theorem carry_alreadyExists {body : List Byte} {s : State} {t : TermId} (hn : numAt body 0 = numberOf t)
    (hst : (s.term t).state ≠ .unused) : carry .provision body s = .refuse s .alreadyExists :=
  (s.onTerminal_of _ hn).trans (if_pos hst)

/-- BAR and RESTORE NOW of a BARRED terminal, UNBAR of one that is not (R17 to R20). -/
theorem carry_wrongState {k : ReqKind} {body : List Byte} {s : State} {t : TermId} (hn : numAt body 0 = numberOf t)
    (hst : (s.term t).state ≠ .unused)
    (hk : ((s.term t).state = .barred ∧ (k = .bar ∨ k = .restoreNow)) ∨ ((s.term t).state ≠ .barred ∧ k = .unbar)) :
    carry k body s = .refuse s .wrongState := by
  rcases hk with ⟨hb, rfl | rfl⟩ | ⟨hb, rfl⟩
  · exact (s.onProvisioned_of _ hn hst).trans (if_pos hb)
  · refine (s.onProvisioned_of _ hn hst).trans ?_
    unfold State.restoreNow
    rw [hb]
  · exact (s.onProvisioned_of _ hn hst).trans (if_neg hb)

/-- RESTORE NOW finds nothing to do where the terminal waits already (R20). -/
theorem carry_restoreNow_waiting {body : List Byte} {s : State} {t : TermId} (hn : numAt body 0 = numberOf t)
    (hst : (s.term t).state = .queued ∨ (s.term t).state = .active ∨ (s.term t).state = .suspended) :
    carry .restoreNow body s = .done s := by
  refine (s.onProvisioned_of _ hn (by rcases hst with h | h | h <;> simp [h])).trans ?_
  unfold State.restoreNow
  rcases hst with h | h | h <;> rw [h]

/-- Settles O19: each check is one of the lemmas on the terminal number, the record and its state. -/
theorem terminalChecks : Obligations.TerminalChecks := by
  intro s tag body k hb hl hk
  refine ⟨fun hn => ?_, fun hn => ?_, fun t hn => ⟨fun hst hp => ?_, fun hst hp => ?_, fun hst hw => ?_,
    fun hst hbar hw => ?_, fun hst hw => ?_⟩⟩
  · obtain ⟨f, hf⟩ := carry_onTerminal hk body (s.received k tag body)
    exact exec_replied hb hl (hf.trans (State.onTerminal_above _ f hn))
  · obtain ⟨f, hf⟩ := carry_onTerminal hk body (s.received k tag body)
    exact exec_replied hb hl (hf.trans (State.onTerminal_zero _ f hn))
  · exact exec_replied hb hl (carry_unused hk hp hn hst)
  · subst hp
    exact exec_replied hb hl (carry_alreadyExists hn hst)
  · exact exec_replied hb hl (carry_wrongState hn (by simp [hst]) (.inl ⟨hst, hw⟩))
  · exact exec_replied hb hl (carry_wrongState hn hst (.inr ⟨hbar, hw⟩))
  · subst hw
    exact exec_replied hb hl (carry_restoreNow_waiting hn hst)

/-! ### READ TERMINAL -/

theorem byteOf_toNat (b : Byte) : byteOf b.toNat = b := by simp [byteOf]

/-- The power-on record is sent as zeros (R9). -/
theorem contents_powerOn (b : Byte) : TermRec.powerOn.contents b.toNat = b :: List.replicate 32 0 := by
  have hzeros : TermRec.powerOn.contents b.toNat = byteOf b.toNat :: List.replicate 32 0 := rfl
  rw [hzeros, byteOf_toNat]

theorem carryReadTerminal_of {s : State} {body : List Byte} {t : TermId} (hn : numAt body 0 = numberOf t) :
    carryReadTerminal body s =
      ⟨s, .ok, (if (s.term t).state = .unused then TermRec.powerOn else s.term t).contents (numAt body 0)⟩ := by
  have hle : ¬ 64 < numAt body 0 := hn ▸ Nat.not_lt.mpr (numberOf_le t)
  have hterm : termOf (numAt body 0) = some t := by rw [hn, termOf_numberOf]
  unfold carryReadTerminal
  dsimp only
  rw [if_neg hle, hterm]
  dsimp only
  split <;> rfl

theorem carryReadTerminal_zero {s : State} {body : List Byte} (hn : numAt body 0 = 0) :
    carryReadTerminal body s = ⟨s, .ok, TermRec.powerOn.contents (numAt body 0)⟩ := by
  unfold carryReadTerminal
  rw [hn]
  rfl

/-- Settles O16: above 64, terminal 0 and an UNUSED record, a provisioned record. -/
theorem readTerminalReply : Obligations.ReadTerminalReply := by
  refine ⟨rfl, fun tag b s hb => ⟨fun hn => ?_, fun hn => ?_, fun t hn hst => ?_⟩⟩
  · exact exec_replied (k := .readTerminal) hb rfl (if_pos hn)
  · rw [← contents_powerOn]
    rcases hn with hn | ⟨t, hn, hst⟩
    · exact exec_replied (k := .readTerminal) hb rfl (carryReadTerminal_zero hn)
    · refine exec_replied (k := .readTerminal) hb rfl ((carryReadTerminal_of (body := [b]) hn).trans ?_)
      rw [State.received_term, if_pos hst]
      rfl
  · refine exec_replied (k := .readTerminal) hb rfl ((carryReadTerminal_of (body := [b]) hn).trans ?_)
    rw [State.received_term, if_neg hst]
    show (⟨_, .ok, (s.term t).contents b.toNat⟩ : Answer) = _
    unfold TermRec.contents
    rw [byteOf_toNat]
    cases (s.term t).lossReason with
    | none => rfl
    | some reason => cases reason <;> rfl

/-! ### PROVISION as SERVING -/

theorem clampNat_zero (hi x : Nat) : clampNat 0 hi x = min x hi := by
  rw [clampNat_eq _ _ _ (Nat.zero_le _), Nat.zero_max]

/-- The clamped values of a PROVISION or AMEND body (R2). -/
theorem provisionedAt_clamped (body : List Byte) :
    (provisionedAt body).clamped =
      { cls := min (numAt body 1) 3, refLevel := max (-440) (min (int16At body 2) (-120))
        su := min (numAt body 4) 240, sd := min (numAt body 5) 240, pmax := min (numAt body 6) 80
        startPower := min (numAt body 7) (min (numAt body 6) 80), depth := max 1 (min (numAt body 8) 8) } := by
  unfold Provisioned.clamped provisionedAt
  simp only [clampNat_zero, clampNat_eq 1 8 _ (by decide), clampInt_eq (-440) (-120) _ (by decide)]

/-- Settles O20: the record PROVISION makes, its mark and the ADMIT are all that differs. -/
theorem provisionServing : Obligations.ProvisionServing := by
  intro tag body s t hb hl hn hst hserving
  refine ⟨_, _, _, _, rfl, rfl, rfl, rfl, ?_⟩
  have hcarry : carry .provision body (s.received .provision tag body) =
      .done ((s.received .provision tag body).provisionServing t body) :=
    ((State.onTerminal_of _ _ hn).trans (if_neg (by simp [hst]))).trans (if_pos (by simp [entersServing, hserving]))
  refine (exec_carried (k := .provision) hb hl hcarry).trans ?_
  rw [State.provisionServing_eq]
  unfold servingRec provisionedRec upAt downAt
  rw [provisionedAt_clamped]
  simp only [clampNat_zero]
  rfl

/-! ### The power-on values and the last byte of a reply -/

theorem State.restartReplying_of {s : State} {r : Reply} (h : s.reply = some r) :
    s.restartReplying = true ↔ r.answered = 0x4F ∧ r.status = .ok := by
  unfold State.restartReplying
  rw [h]
  simp only [Option.any_some, Bool.and_eq_true, decide_eq_true_eq]
  rfl

/-- Settles O4: the power-on values field by field, and the two ways the last byte of a reply leaves. -/
theorem resetsAndReplies : Obligations.ResetsAndReplies := by
  refine ⟨⟨State.reset_term, rfl, rfl, rfl, rfl, rfl, State.reset_job, State.reset_poll, rfl, rfl, rfl, rfl, rfl, rfl, rfl,
    rfl, rfl, rfl, rfl, rfl, rfl, rfl, rfl, State.reset_marked, rfl, ?_, ?_⟩, fun s => rfl,
    fun s r hr => ⟨fun hno => ?_, fun hyes => ?_⟩⟩
  · decide
  · decide
  · have hrep : s.restartReplying = false := by
      rw [← Bool.not_eq_true, State.restartReplying_of hr]; exact hno
    show Host.Outcome.next s.replyLeaves = _
    simp [State.replyLeaves, hrep, hr]
  · have hrep : s.restartReplying = true := (State.restartReplying_of hr).mpr hyes
    constructor
    · show Host.Outcome.next s.replyLeaves = _
      simp [State.replyLeaves, hrep, State.restarted]
    · show Host.Outcome.next (if s.restartReplying then s.restarted .restart else s) = _
      simp [hrep, State.restarted]

/-! ### The laws at reset, and their views -/

theorem State.someWaiting_iff (s : State) : s.someWaiting = true ↔ ∃ t, (s.term t).state.waiting = true := by
  simp [State.someWaiting, allTerms, List.any_eq_true]

theorem TermState.waiting_iff (a : TermState) :
    a.waiting = true ↔ a ∈ [TermState.queued, .active, .suspended, .backoff, .held] := by
  cases a <;> decide

/-- The preempt-pending condition in full (R84, R89). -/
theorem State.preemptBlocked_iff (s : State) :
    s.preemptBlocked = true ↔ (∀ e, (s.job e).isSome = true) ∧ 8 ≤ s.stack.length ∧
      ∃ t rest e j, s.queue = t :: rest ∧ s.victim = some (e, j) ∧ (s.term t).cls < j.cls := by
  unfold State.preemptBlocked
  rw [Bool.and_eq_true, decide_eq_true_eq]
  constructor
  · rintro ⟨hw, hk⟩
    obtain ⟨⟨e, j, t⟩, hw⟩ := Option.isSome_iff_exists.mp hw
    obtain ⟨hbusy, ⟨rest, hq⟩, hv, hlt⟩ := State.preemptWanted_some hw
    exact ⟨hbusy, hk, t, rest, e, j, hq, hv, hlt⟩
  · rintro ⟨hbusy, hk, t, rest, e, j, hq, hv, hlt⟩
    refine ⟨?_, hk⟩
    unfold State.preemptWanted
    rw [if_pos (List.all_eq_true.mpr (fun e _ => hbusy e)), hq, hv]
    simp [hlt]

theorem reset_sound : Sound State.reset := by
  refine ⟨by decide, by decide, by decide, ?_, ?_, ?_, ?_, by decide, by decide, by decide, by decide, by decide,
    by decide, by decide, by decide, by decide, by decide⟩
  all_goals
    intro t
    rw [State.reset_term]
    decide

/-- Settles O52: every law at reset, and each view by its definition. -/
theorem resetIsSound : Obligations.ResetIsSound := by
  refine ⟨reset_sound, fun s => ?_, fun _ => rfl, rfl, rfl, State.preemptBlocked_iff⟩
  rw [State.someWaiting_iff]
  simp only [TermState.waiting_iff]

end Sys2Proof.Machine
end

section
/-! The end of an event, seen from the state before it: which fields it depends on, what it leaves of a record and of the
marks; and the terminals that come back to the queue (R10, R12, R19, R20, R103). -/

namespace Sys2Proof.Machine

/-! ### The arbiter's part of a state -/

/-- The fields the arbiter reads or writes, but the preempt-pending flag. -/
structure ArbPart where
  params : SectorParams
  marks : Vector Bool 64
  terms : Vector TermRec 64
  queue : List TermId
  stack : List Context
  serial : Serial
  hold : Bool
  engines : Vector (Option Job) 4
  mode : Mode

def State.arbPart (s : State) : ArbPart :=
  ⟨s.params, s.marks, s.terms, s.queue, s.stack, s.serial, s.hold, s.engines, s.mode⟩

/-- A state with the arbiter's part of another is that one with the other fields put back. -/
theorem State.eq_over {a b : State} (h : a.arbPart = b.arbPart) : a = b.over a := by
  simp only [State.arbPart, ArbPart.mk.injEq] at h
  obtain ⟨h1, h2, h3, h4, h5, h6, h7, h8, h9⟩ := h
  unfold State.over
  rw [← h1, ← h2, ← h3, ← h4, ← h5, ← h6, ← h7, ← h8, ← h9]

/-- Two works with one arbiter's part close alike. -/
theorem Work.close_congr {a b : State} (due : Bool) (h : a.arbPart = b.arbPart) :
    (⟨a, due⟩ : Work).close.arbPart = (⟨b, due⟩ : Work).close.arbPart ∧
    (⟨a, due⟩ : Work).close.preemptPending = (⟨b, due⟩ : Work).close.preemptPending := by
  rw [State.eq_over h, Work.close_over]
  exact ⟨rfl, rfl⟩

/-- The end of an event is told from any work with the same arbiter's part. -/
theorem State.closedFrom_of_arbPart {a b : State} {due : Bool} (h : a.arbPart = b.arbPart) :
    (⟨a, due⟩ : Work).close.closedFrom ⟨b, due⟩ := by
  obtain ⟨hpart, hflag⟩ := Work.close_congr due h
  simp only [State.arbPart, ArbPart.mk.injEq] at hpart
  obtain ⟨-, hmarks, hterms, hqueue, hstack, hserial, -, hengines, -⟩ := hpart
  exact ⟨hterms, hmarks, hqueue, hstack, hserial, hengines, hflag⟩

/-! ### The evaluation as grants, resumes and preemptions -/

/-- A relation that a grant, a resume and the setting aside of a job keep holds across an evaluation (R80 to R86). -/
theorem State.evaluate_ind {R : State → State → Prop} (refl : ∀ s, R s s) (trans : ∀ {a b c}, R a b → R b c → R a c)
    (grant : ∀ s e u, s.job e = none → u ∈ s.queue → R s (s.grant e u))
    (resume : ∀ s e c below, s.job e = none → s.stack = c :: below → R s (s.resume e c below))
    (setAside : ∀ s e j, s.job e = some j → j.phase.searching = true → R s (s.setAside e j)) (s : State) : R s s.evaluate := by
  have hfill : ∀ x e, R x (x.fillEngine e) := fun x e => by
    unfold State.fillEngine
    split
    · exact refl x
    · next hidle =>
      have hidle : x.job e = none := by simpa using hidle
      split
      · exact refl x
      · next hq => exact grant x e _ hidle (hq ▸ List.mem_cons_self)
      · next hk _ => exact resume x e _ _ hidle hk
      · next hk hq =>
        split
        · exact grant x e _ hidle (hq ▸ List.mem_cons_self)
        · exact resume x e _ _ hidle hk
  have hfills : ∀ x, R x x.fill := fun x =>
    trans (trans (trans (hfill x 0) (hfill _ 1)) (hfill _ 2)) (hfill _ 3)
  have hpreempt : ∀ n x, R x (preemptLoop n x) := fun n => by
    induction n with
    | zero => exact refl
    | succ n ih =>
      intro x
      unfold preemptLoop
      split
      · exact refl x
      · next e j u hw =>
        obtain ⟨-, ⟨rest, hq⟩, hv, -⟩ := State.preemptWanted_some hw
        split
        · refine trans ?_ (ih _)
          rw [State.preempt_eq]
          obtain ⟨hj, hsearching⟩ := State.victim_some hv
          refine trans (setAside x e j hj hsearching) (grant _ e u ?_ ?_)
          · simp [State.setAside]
          · simp [State.setAside, hq]
        · exact refl x
  unfold State.evaluate
  split
  · exact refl s
  · exact trans (hfills s) (hpreempt 8 _)

/-! ### What the evaluation leaves of records and marks -/

/-- A state of a terminal the arbiter moves about. -/
def TermState.inPlay (a : TermState) : Bool := a == .queued || a == .active || a == .suspended

/-- The arbiter leaves a terminal in play, and an unheard one unheard. -/
def TermRec.Played (r r' : TermRec) : Prop :=
  (r.state.inPlay = true → r'.state.inPlay = true) ∧ (r.heard = false → r'.heard = false)

/-- From `s` to `v` every record is played and no mark is lost. -/
def State.Plays (s v : State) : Prop := ∀ u, (s.term u).Played (v.term u) ∧ (s.marked u = true → v.marked u = true)

namespace State.Plays

variable {s x v : State}

theorem refl : Plays s s := fun _ => ⟨⟨id, id⟩, id⟩

theorem trans (h : Plays s x) (h' : Plays x v) : Plays s v := fun u =>
  ⟨⟨fun hp => (h' u).1.1 ((h u).1.1 hp), fun hh => (h' u).1.2 ((h u).1.2 hh)⟩, fun hm => (h' u).2 ((h u).2 hm)⟩

end State.Plays

theorem TermRec.Played.transit (r : TermRec) {a b : TermState} (hb : b.inPlay = true) : r.Played (r.transit a b) := by
  unfold TermRec.transit
  split
  · exact ⟨fun _ => hb, id⟩
  · exact ⟨id, id⟩

theorem State.transition_plays (s : State) (t : TermId) {a b : TermState} (hb : b.inPlay = true) :
    s.Plays (s.transition t a b) := fun u => by
  refine ⟨?_, fun hm => by rw [State.transition_marked, hm]; rfl⟩
  rw [State.transition_term_eq]
  split
  · exact TermRec.Played.transit _ hb
  · exact ⟨id, id⟩

theorem State.grant_plays (s : State) (e : EngineId) (t : TermId) : s.Plays (s.grant e t) := fun u => by
  refine ⟨?_, fun hm => ?_⟩
  swap
  · unfold State.grant
    simp only [State.setJob_marked, State.nextSerial_marked, State.setTerm_marked, State.transition_marked,
      State.leaveQueue_marked, hm, Bool.true_or]
  rw [State.grant_term]
  split
  · next hu => exact hu ▸ ⟨(TermRec.Played.transit (s.term u) rfl).1, fun _ => rfl⟩
  · exact ⟨id, id⟩

theorem State.resume_plays (s : State) (e : EngineId) (c : Context) (below : List Context) :
    s.Plays (s.resume e c below) := fun u => by
  refine ⟨?_, fun hm => ?_⟩
  swap
  · unfold State.resume
    simp only [State.setJob_marked, State.nextSerial_marked, State.transition_marked, State.setStack_marked, hm,
      Bool.true_or]
  rw [State.resume_term]
  split
  · exact TermRec.Played.transit _ rfl
  · exact ⟨id, id⟩

theorem State.setAside_plays (s : State) (e : EngineId) (j : Job) : s.Plays (s.setAside e j) := fun u => by
  obtain ⟨hplayed, hmarks⟩ :=
    (s.setStack (j.context :: s.stack)).transition_plays j.term (a := .active) (b := .suspended) rfl u
  unfold State.setAside
  rw [State.setJob_term, State.setJob_marked]
  exact ⟨hplayed, hmarks⟩

theorem State.evaluate_plays (s : State) : s.Plays s.evaluate :=
  State.evaluate_ind (fun _ => .refl) .trans (fun s e u _ _ => s.grant_plays e u)
    (fun s e c below _ _ => s.resume_plays e c below) (fun s e j _ _ => s.setAside_plays e j) s

/-- What the end of an event leaves of the records and the marks. -/
theorem Work.close_plays (w : Work) : w.st.Plays w.close := by
  unfold Work.close
  split
  · exact w.st.evaluate_plays
  · exact .refl

/-- The end of an event leaves a record but for its place. -/
theorem Work.close_sameButPlace (w : Work) (u : TermId) : (w.st.term u).sameButPlace (w.close.term u) :=
  TermRec.core_eq (w.close_core u)

/-- Where an event has written one record, that one and the others are left but for their places. -/
theorem Work.close_sameButPlace_of {s : State} {w : Work} {t : TermId} {r : TermRec}
    (hw : ∀ u, w.st.term u = if u = t then r else s.term u) :
    r.sameButPlace (w.close.term t) ∧ ∀ u, u ≠ t → (s.term u).sameButPlace (w.close.term u) := by
  refine ⟨?_, fun u hu => ?_⟩
  · simpa [hw] using w.close_sameButPlace t
  · simpa [hw, hu] using w.close_sameButPlace u

/-! ### A terminal in no collection -/

/-- The terminal waits in no collection and no engine works on it. -/
def State.Absent (s : State) (t : TermId) : Prop := t ∉ s.queue ∧ (∀ e, s.worker e ≠ some t) ∧ t ∉ s.onStack

/-- From `s` to `v` a terminal in no collection stays in none and keeps its record. -/
def State.Spares (s v : State) : Prop := ∀ t, s.Absent t → v.Absent t ∧ v.term t = s.term t

namespace State.Spares

variable {s x v : State}

theorem refl : Spares s s := fun _ h => ⟨h, rfl⟩

theorem trans (h : Spares s x) (h' : Spares x v) : Spares s v := fun t ht => by
  obtain ⟨hx, hsame⟩ := h t ht
  obtain ⟨hv, hsame'⟩ := h' t hx
  exact ⟨hv, hsame'.trans hsame⟩

end State.Spares

theorem State.grant_spares (s : State) (e : EngineId) {u : TermId} (hu : u ∈ s.queue) : s.Spares (s.grant e u) := by
  rintro t ⟨hq, hw, hk⟩
  obtain ⟨hqueue, hstack, -⟩ := s.grant_fields e u
  have hne : t ≠ u := fun h => hq (h ▸ hu)
  refine ⟨⟨?_, fun f => ?_, ?_⟩, ?_⟩
  · rw [hqueue]
    exact fun h => hq (List.mem_of_mem_filter h)
  · rw [State.grant_worker]
    split
    · exact fun h => hne (Option.some.inj h).symm
    · exact hw f
  · rwa [State.onStack, hstack]
  · rw [State.grant_term, if_neg hne]

theorem State.resume_spares (s : State) (e : EngineId) {c : Context} {below : List Context} (hs : s.stack = c :: below) :
    s.Spares (s.resume e c below) := by
  rintro t ⟨hq, hw, hk⟩
  obtain ⟨hqueue, hstack, -⟩ := s.resume_fields e c below
  rw [State.onStack, hs, List.map_cons, List.mem_cons, not_or] at hk
  obtain ⟨hne, hbelow⟩ := hk
  refine ⟨⟨?_, fun f => ?_, ?_⟩, ?_⟩
  · rwa [hqueue]
  · rw [State.resume_worker]
    split
    · exact fun h => hne (Option.some.inj h).symm
    · exact hw f
  · rwa [State.onStack, hstack]
  · rw [State.resume_term, if_neg hne]

theorem State.setAside_spares (s : State) {e : EngineId} {j : Job} (hj : s.job e = some j) : s.Spares (s.setAside e j) := by
  rintro t ⟨hq, hw, hk⟩
  have hne : t ≠ j.term := fun h => hw e (by rw [State.worker, hj, h]; rfl)
  unfold State.setAside
  refine ⟨⟨?_, fun f => ?_, ?_⟩, ?_⟩
  · simpa using hq
  · rw [State.setJob_worker, State.transition_worker]
    split
    · exact nofun
    · exact hw f
  · simpa [State.onStack, Job.context, hne] using hk
  · rw [State.setJob_term, State.transition_term_eq, if_neg hne]
    rfl

theorem State.evaluate_spares (s : State) : s.Spares s.evaluate :=
  State.evaluate_ind (fun _ => .refl) .trans (fun s e _ _ hu => s.grant_spares e hu)
    (fun s e _ _ _ hs => s.resume_spares e hs) (fun s _ _ hj _ => s.setAside_spares hj) s

theorem Work.close_spares (w : Work) : w.st.Spares w.close := by
  unfold Work.close
  split
  · exact w.st.evaluate_spares
  · exact .refl

/-! ### A job past its search -/

/-- A job that does not search is neither replaced nor set aside (R81, R84). -/
def State.KeepsAdmitted (s v : State) : Prop :=
  ∀ e j, s.job e = some j → j.phase.searching = false → v.job e = some j

theorem State.setAside_job (s : State) {e f : EngineId} (j : Job) (hf : f ≠ e) : (s.setAside e j).job f = s.job f := by
  unfold State.setAside
  rw [State.setJob_job_ne _ _ hf]
  simp [State.job]

theorem State.evaluate_keepsAdmitted (s : State) : s.KeepsAdmitted s.evaluate := by
  refine State.evaluate_ind (R := State.KeepsAdmitted) (fun _ _ _ h _ => h)
    (fun hab hbc e j hj hadm => hbc e j (hab e j hj hadm) hadm) (fun s e u hidle _ f j hj _ => ?_)
    (fun s e c below hidle _ f j hj _ => ?_) (fun s e i hi hsearching f j hj hadm => ?_) s
  · obtain ⟨-, -, -, -, hothers, -⟩ := s.grant_fields e u
    exact (hothers f fun h => by simp [h, hidle] at hj).trans hj
  · obtain ⟨-, -, -, -, hothers, -⟩ := s.resume_fields e c below
    exact (hothers f fun h => by simp [h, hidle] at hj).trans hj
  · refine (s.setAside_job i fun h => ?_).trans hj
    subst h
    rw [Option.some.inj (hi.symm.trans hj), hadm] at hsearching
    exact Bool.false_ne_true hsearching

theorem Work.close_keepsAdmitted (w : Work) : w.st.KeepsAdmitted w.close := by
  unfold Work.close
  split
  · exact w.st.evaluate_keepsAdmitted
  · exact fun _ _ h _ => h

/-! ### A terminal back in the queue -/

/-- A terminal with a new record in the queue, field by field (R74, R134). -/
theorem State.rejoin_eq (s : State) (t : TermId) (r : TermRec) :
    s.rejoin t r = { ((s.setTerm t r).mark t).joinEnd t with
      mode := if s.mode = .clear then .degraded else s.mode
      sectorMark := s.sectorMark || decide (s.mode = .clear) } := by
  unfold State.rejoin State.join State.setMode
  dsimp only [State.joinEnd_mode, State.mark_mode, State.setTerm_mode]
  by_cases h : s.mode = .clear
  · simp [h]
  · simp only [h, if_false, decide_false, Bool.or_false]
    rfl

/-- A terminal's group is not above an unheard record's exactly when its class is not (R73). -/
theorem TermRec.group_le_unheard {r r' : TermRec} (h : r.heard = false) : r'.group ≤ r.group ↔ r'.cls ≤ r.cls := by
  unfold TermRec.group
  rw [h]
  cases r'.heard
  · simp
  · simp
    omega

theorem TermState.inPlay_iff (a : TermState) :
    a.inPlay = true ↔ a ∈ [TermState.queued, TermState.active, TermState.suspended] := by
  cases a <;> decide

theorem TermRec.sameButPlace.of_heard {r r' : TermRec} (h : r.sameButPlace r') (hheard : r'.heard = r.heard) :
    r' = { r with state := r'.state } := by
  calc r' = { r with state := r'.state, heard := r'.heard } := h
    _ = { r with state := r'.state } := by rw [hheard]

/-- A terminal that joins with an unheard QUEUED record has joined as the statements say, whatever else the event did to
fields the arbiter does not read. -/
theorem State.joined_of_rejoin {s x : State} {t : TermId} {r : TermRec} (hst : r.state = .queued)
    (hheard : r.heard = false) (hx : (x.setTerm t r).arbPart = (s.setTerm t r).arbPart)
    (hsector : x.sectorMark = s.sectorMark) (hpolls : x.polls = s.polls) :
    s.joined (Work.trigger (x.rejoin t r)).close t r := by
  have hpart := hx
  simp only [State.arbPart, ArbPart.mk.injEq] at hpart
  obtain ⟨-, -, hterms, hqueue, -, -, hhold, -, hmode⟩ := hpart
  have hmode' : x.mode = s.mode := hmode
  obtain ⟨hfsector, -, hfpolls, hfmode, -⟩ := Work.close_fields (Work.trigger (x.rejoin t r))
  have hplay := (Work.trigger (x.rejoin t r)).close_plays
  have hsame := (Work.trigger (x.rejoin t r)).close_sameButPlace
  have hterm : ∀ u, (Work.trigger (x.rejoin t r)).st.term u = (s.setTerm t r).term u := fun u => by
    rw [Work.trigger, State.rejoin_term, ← State.term_congr hterms, State.setTerm_term]
  have hjoin : (x.rejoin t r).arbPart =
      ({ ((s.setTerm t r).mark t).joinEnd t with mode := if s.mode = .clear then .degraded else s.mode } : State).arbPart := by
    rw [State.rejoin_eq, State.eq_over hx, hmode']
    rfl
  refine ⟨?_, ?_, ?_, ?_, ?_, fun u hu => ?_, fun hskip => ?_, State.closedFrom_of_arbPart hjoin⟩
  · obtain ⟨⟨hinplay, hunheard⟩, -⟩ := hplay t
    have hrec := hsame t
    rw [hterm, State.setTerm_term_self] at hinplay hunheard hrec
    exact ⟨_, (TermState.inPlay_iff _).mp (hinplay (by rw [hst]; rfl)), hrec.of_heard ((hunheard hheard).trans hheard.symm)⟩
  · refine (hplay t).2 ?_
    rw [Work.trigger, State.rejoin_eq]
    exact (State.mark_marked _ t t).trans (by simp)
  · rw [hfmode, Work.trigger, State.rejoin_eq, hmode']
  · rw [hfsector, Work.trigger, State.rejoin_eq, hmode', hsector]
  · rw [hfpolls, Work.trigger, State.rejoin_eq]
    exact hpolls
  · have hrec := hsame u
    rw [hterm, State.setTerm_term_ne _ _ hu] at hrec
    exact hrec
  · have hstill : (x.rejoin t r).evaluate = x.rejoin t r := State.evaluate_skipped _ <| hskip.imp
      (fun h => (kept_hold (State.rejoin_kept x t r)).trans (hhold.trans h))
      (fun h => by rw [State.rejoin_eq, hmode', h]; rfl)
    have hgroup : ∀ u, ((s.setTerm t r).term u).group ≤ r.group ↔ ((s.setTerm t r).term u).cls ≤ r.cls :=
      fun u => TermRec.group_le_unheard hheard
    have hq : x.queue = s.queue := hqueue
    calc (Work.trigger (x.rejoin t r)).close.queue = (x.rejoin t r).evaluate.queue := rfl
      _ = (x.rejoin t r).queue := by rw [hstill]
      _ = ((x.setTerm t r).joinEnd t).queue := State.rejoin_queue x t r
      _ = _ := by
        unfold State.joinEnd
        simp only [State.setTerm_term_self, ← hgroup, State.term_congr hterms, State.setTerm_queue, hq, State.setQueue_queue]

end Sys2Proof.Machine
end

section
/-! The requests and the timer that bring a terminal to the queue: PROVISION as RESTORE, UNBAR, RESTORE NOW, a spent
backoff. -/

namespace Sys2Proof.Machine

/-! ### What a request leaves -/

/-- A request whose work keeps what events keep has answered, and nothing beside the work differs (R156, R158). -/
theorem State.answer_frame {s v : State} {k : ReqKind} {tag : Byte} {body : List Byte} (st : Status) (c : List Byte)
    (h : v.kept = (s.received k tag body).kept) :
    s.sameRest (v.answer ⟨tag, k.code, st, c⟩) ∧ (v.answer ⟨tag, k.code, st, c⟩).mlRx = s.mlRx ∧
      (v.answer ⟨tag, k.code, st, c⟩).answers k tag body st c :=
  ⟨⟨(kept_startCause h :), (kept_params h :), (kept_ladder h :), (kept_hold h :), (kept_lastFrame h :),
    (kept_modemSilent h :), (kept_silenceMs h :), (kept_cursor h :), (kept_pending h :), (kept_freeIndex h :)⟩,
    (kept_mlRx h :), (kept_cpRx h :), (kept_reqBuf h :), rfl⟩

theorem State.joined.answer {s v : State} {t : TermId} {r : TermRec} (h : s.joined v t r) (rep : Reply) :
    s.joined (v.answer rep) t r := h

theorem State.closed_rejoin_rest (x : State) (t : TermId) (r : TermRec) :
    (Work.trigger (x.rejoin t r)).close.outbox = x.outbox ∧
    (Work.trigger (x.rejoin t r)).close.lossWindow = x.lossWindow ∧
    (Work.trigger (x.rejoin t r)).close.kept = x.kept := by
  obtain ⟨-, hout, -, -, hwin⟩ := Work.close_fields (Work.trigger (x.rejoin t r))
  refine ⟨hout.trans ?_, hwin.trans ?_, (Work.close_kept _).trans (State.rejoin_kept x t r)⟩ <;>
    rw [Work.trigger, State.rejoin_eq] <;> rfl

/-- A request that brings a terminal to the queue, with what it sends. -/
theorem exec_rejoin {s : State} {k : ReqKind} {tag : Byte} {body : List Byte} {t : TermId} {r : TermRec} (out : List OutMsg)
    (hb : s.reqBuf = none) (hl : body.length = k.bodyLen) {x : State}
    (hc : carry k body (s.received k tag body) = .done (Work.trigger (x.rejoin t r)).close)
    (hst : r.state = .queued) (hheard : r.heard = false)
    (hx : (x.setTerm t r).arbPart = (s.setTerm t r).arbPart)
    (hrest : x.sectorMark = s.sectorMark ∧ x.polls = s.polls ∧ x.lossWindow = s.lossWindow ∧ x.outbox = out)
    (hkept : x.kept = (s.received k tag body).kept) :
    ∃ v, exec (k.command tag body) s = .next v ∧ s.joined v t r ∧ v.outbox = out ∧ v.lossWindow = s.lossWindow ∧
      s.sameRest v ∧ v.mlRx = s.mlRx ∧ v.answers k tag body .ok [] := by
  obtain ⟨hsector, hpolls, hwin, hout⟩ := hrest
  obtain ⟨hout', hwin', hkept'⟩ := State.closed_rejoin_rest x t r
  exact ⟨_, exec_carried hb hl hc, (State.joined_of_rejoin hst hheard hx hsector hpolls).answer _,
    hout'.trans hout, hwin'.trans hwin, State.answer_frame .ok [] (hkept'.trans hkept)⟩

/-- A request that brings a terminal to the queue and does nothing else. -/
theorem exec_rejoin_only {s : State} {k : ReqKind} {tag : Byte} {body : List Byte} {t : TermId} {r : TermRec}
    (hb : s.reqBuf = none) (hl : body.length = k.bodyLen)
    (hc : carry k body (s.received k tag body) = .done (Work.trigger ((s.received k tag body).rejoin t r)).close)
    (hst : r.state = .queued) (hheard : r.heard = false) :
    ∃ v, exec (k.command tag body) s = .next v ∧ s.joined v t r ∧ v.outbox = s.outbox ∧ v.lossWindow = s.lossWindow ∧
      s.sameRest v ∧ v.mlRx = s.mlRx ∧ v.answers k tag body .ok [] :=
  exec_rejoin s.outbox hb hl hc hst hheard rfl ⟨rfl, rfl, rfl, rfl⟩ rfl

/-! ### PROVISION as RESTORE -/

/-- Settles O21: the record of R12 joins the queue. -/
theorem provisionRestore : Obligations.ProvisionRestore := by
  intro tag body s t hb hl hn hst hrestore
  have hcarry : carry .provision body (s.received .provision tag body) =
      .done ((s.received .provision tag body).provisionRestore t body) :=
    ((State.onTerminal_of _ _ hn).trans (if_neg (by simp [hst]))).trans (if_neg (fun h => hrestore (of_decide_eq_true h)))
  rw [State.provisionRestore_eq] at hcarry
  obtain ⟨v, hexec, hjoined, hout, hwin, hframe⟩ := exec_rejoin_only hb hl hcarry rfl rfl
  refine ⟨v, _, _, hexec, rfl, rfl, ?_, hout, hwin, hframe⟩
  unfold restoreRec provisionedRec at hjoined
  rw [provisionedAt_clamped] at hjoined
  exact hjoined

/-! ### UNBAR, RESTORE NOW and a spent backoff -/

theorem carry_unbar {s : State} {body : List Byte} {t : TermId} (hn : numAt body 0 = numberOf t)
    (hst : (s.term t).state = .barred) : carry .unbar body s = .done (s.unbar t) :=
  (s.onProvisioned_of _ hn (by simp [hst])).trans (if_pos hst)

theorem carry_restoreNow_requeue {s : State} {body : List Byte} {t : TermId} (hn : numAt body 0 = numberOf t)
    (hst : (s.term t).state = .backoff ∨ (s.term t).state = .held) :
    carry .restoreNow body s = .done (s.requeueNow t (s.term t).state) := by
  refine (s.onProvisioned_of _ hn (by rcases hst with h | h <;> simp [h])).trans ?_
  unfold State.restoreNow
  rcases hst with h | h <;> rw [h]

theorem carry_restoreNow_serving {s : State} {body : List Byte} {t : TermId} (hn : numAt body 0 = numberOf t)
    (hst : (s.term t).state = .serving) :
    carry .restoreNow body s = .done (Work.trigger (s.lose t .forced)).close := by
  refine (s.onProvisioned_of _ hn (by simp [hst])).trans ?_
  unfold State.restoreNow
  rw [hst]

theorem unbar_joins {tag : Byte} {body : List Byte} {s : State} {t : TermId} (hb : s.reqBuf = none)
    (hl : body.length = 1) (hn : numAt body 0 = numberOf t) (hst : (s.term t).state = .barred) :
    ∃ v, exec (.unbar tag body) s = .next v ∧ s.joined v t ((s.term t).unbarred s.lastFrame) ∧ v.outbox = s.outbox ∧
      v.lossWindow = s.lossWindow ∧ s.sameRest v ∧ v.mlRx = s.mlRx ∧ v.answers .unbar tag body .ok [] := by
  have hcarry := carry_unbar (s := s.received .unbar tag body) hn hst
  rw [State.unbar_eq (s.received .unbar tag body) t hst] at hcarry
  exact exec_rejoin_only hb hl hcarry rfl rfl

theorem requeue_joins {tag : Byte} {body : List Byte} {s : State} {t : TermId} (hb : s.reqBuf = none)
    (hl : body.length = 1) (hn : numAt body 0 = numberOf t)
    (hst : (s.term t).state = .backoff ∨ (s.term t).state = .held) :
    ∃ v, exec (.restoreNow tag body) s = .next v ∧ s.joined v t (s.term t).requeued ∧ v.outbox = s.outbox ∧
      v.lossWindow = s.lossWindow ∧ s.sameRest v ∧ v.mlRx = s.mlRx ∧ v.answers .restoreNow tag body .ok [] := by
  have hcarry := carry_restoreNow_requeue (s := s.received .restoreNow tag body) hn hst
  rw [State.requeueNow_eq _ _ _ rfl] at hcarry
  exact exec_rejoin_only hb hl hcarry rfl rfl

theorem restoreNow_loses {tag : Byte} {body : List Byte} {s : State} {t : TermId} (hb : s.reqBuf = none)
    (hl : body.length = 1) (hn : numAt body 0 = numberOf t) (hst : (s.term t).state = .serving) :
    ∃ v, exec (.restoreNow tag body) s = .next v ∧
      s.joined v t { ((s.term t).completed s.lastFrame).lost .forced s.lastFrame with state := .queued } ∧
      v.outbox = s.outbox ++ [.withdraw t] ∧ v.lossWindow = s.lossWindow ∧ s.sameRest v ∧ v.mlRx = s.mlRx ∧
      v.answers .restoreNow tag body .ok [] := by
  have hcarry := carry_restoreNow_serving (s := s.received .restoreNow tag body) hn hst
  rw [State.lose_eq (s.received .restoreNow tag body) t .forced hst] at hcarry
  dsimp only at hcarry
  rw [if_pos rfl] at hcarry
  refine exec_rejoin _ hb hl hcarry rfl rfl ?_ ⟨rfl, rfl, rfl, rfl⟩ rfl
  show ((s.setTerm t _).setTerm t _).arbPart = _
  rw [State.setTerm_setTerm]

/-- A spent backoff as a command brings its terminal to the queue (R103). -/
theorem backoffExpiry_joins {s : State} {t : TermId} (hst : (s.term t).state = .backoff) (hspent : (s.term t).backoff = 0) :
    ∃ v, exec (.backoffExpiry t) s = .next v ∧ s.joined v t { s.term t with state := .queued, heard := false } ∧
      v.outbox = s.outbox ∧ v.lossWindow = s.lossWindow ∧ v.mlRx = s.mlRx ∧ s.sameRest v ∧ s.samePort v := by
  have hover := (s.backoffOver_iff t).mpr ⟨hst, hspent⟩
  have hrejoin : s.expireBackoff t = Work.trigger (s.rejoin t { s.term t with state := .queued, heard := false }) := by
    unfold State.expireBackoff
    rw [if_pos hover]
    dsimp only
    rw [State.join_setTerm_transition s t _ _ hst, State.transition_term_eq, if_pos rfl]
    simp only [TermRec.transit, hst, if_true, ← hspent]
  obtain ⟨hout, hwin, hkept⟩ := State.closed_rejoin_rest s t { s.term t with state := .queued, heard := false }
  have hexec : exec (.backoffExpiry t) s = .next (Work.trigger (s.rejoin t { s.term t with
      state := .queued, heard := false })).close := by
    rw [← hrejoin]
    exact congrArg Host.Outcome.next (if_pos hover)
  exact ⟨_, hexec, State.joined_of_rejoin rfl rfl rfl rfl rfl, hout, hwin, kept_mlRx hkept,
    ⟨kept_startCause hkept, kept_params hkept, kept_ladder hkept, kept_hold hkept, kept_lastFrame hkept,
      kept_modemSilent hkept, kept_silenceMs hkept, kept_cursor hkept, kept_pending hkept, kept_freeIndex hkept⟩,
    kept_cpRx hkept, kept_reqBuf hkept, kept_reply hkept⟩

/-- Settles O26: UNBAR, RESTORE NOW from each state, and the timer. -/
theorem terminalsRequeued : Obligations.TerminalsRequeued := by
  refine ⟨fun tag body s t hb hl hn => ⟨unbar_joins hb hl hn, requeue_joins hb hl hn⟩,
    fun tag body s t hb hl hn hst => ?_, fun s t => ⟨backoffExpiry_joins, fun hnot => ?_⟩⟩
  · obtain ⟨v, hexec, hrest⟩ := restoreNow_loses (tag := tag) hb hl hn hst
    exact ⟨v, _, hexec, rfl, hrest⟩
  · exact congrArg Host.Outcome.next (if_neg fun hover => hnot ((s.backoffOver_iff t).mp hover))

end Sys2Proof.Machine
end

section
/-! RETIRE and BAR: a terminal taken out of every collection, and the check for CLEAR after it. -/

namespace Sys2Proof.Machine

theorem State.closedFrom.of_arbPart {v a b : State} {due : Bool} (h : v.closedFrom ⟨a, due⟩) (hab : a.arbPart = b.arbPart) :
    v.closedFrom ⟨b, due⟩ := by
  obtain ⟨hterms, hmarks, hqueue, hstack, hserial, hengines, hflag⟩ := h
  obtain ⟨hterms', hmarks', hqueue', hstack', hserial', hengines', hflag'⟩ := State.closedFrom_of_arbPart (due := due) hab
  exact ⟨hterms.trans hterms', hmarks.trans hmarks', hqueue.trans hqueue', hstack.trans hstack', hserial.trans hserial',
    hengines.trans hengines', hflag.trans hflag'⟩

theorem State.setMode_eq (s : State) (m : Mode) :
    s.setMode m = { s with mode := m, sectorMark := s.sectorMark || decide (m ≠ s.mode) } := by
  unfold State.setMode
  split
  · next h => simp [← h]
  · next h => simp [Ne.symm h]

/-- The check for CLEAR as one write of the mode (R135, R133); leaving OUTAGE is a trigger (R80). -/
theorem Work.checkClearIf_eq (w : Work) {left : Bool} {m : Mode}
    (hm : m = if left = true ∧ w.st.someWaiting = false then .clear else w.st.mode) :
    w.checkClearIf left =
      ⟨{ w.st with mode := m, sectorMark := w.st.sectorMark || decide (m ≠ w.st.mode) },
        w.due || decide (w.st.mode = .outage ∧ m = .clear)⟩ := by
  unfold Work.checkClearIf Work.checkClear
  by_cases hleft : left = true ∧ w.st.someWaiting = false
  · obtain ⟨rfl, hnone⟩ := hleft
    rw [hnone, if_pos ⟨rfl, rfl⟩] at hm
    subst hm
    rw [if_pos rfl, hnone, State.setMode_eq]
    simp
  · rw [if_neg hleft] at hm
    subst hm
    have hsame : (decide (w.st.mode ≠ w.st.mode)) = false ∧ decide (w.st.mode = .outage ∧ w.st.mode = .clear) = false := by
      cases w.st.mode <;> decide
    rw [hsame.1, hsame.2, Bool.or_false, Bool.or_false]
    cases left with
    | false => rfl
    | true => exact if_pos (by simpa using hleft)

/-- A terminal taken out, field by field (R16, R88, R114, R124). -/
theorem State.takeOut_eq (s : State) (t : TermId) :
    s.takeOut t =
      ⟨{ s with
          outbox := s.outbox ++ (if (s.term t).state = .serving ∨ s.admitted t = true then [.withdraw t] else [])
          queue := s.queue.filter (· ≠ t)
          engines := mapPlaces (dropJobOf t) s.engines
          stack := s.stack.filter (fun c => c.term ≠ t)
          polls := (s.markStale t).polls },
        decide ((s.term t).state = .active ∨ (s.term t).state = .suspended)⟩ := by
  unfold State.takeOut
  dsimp only
  by_cases h : (s.term t).state = .serving ∨ s.admitted t = true
  · rw [if_pos h, if_pos (by simpa using h)]
    exact congrArg₂ Work.mk rfl (Bool.decide_or ..).symm
  · rw [if_neg h, if_neg (by simpa using h), List.append_nil]
    exact congrArg₂ Work.mk rfl (Bool.decide_or ..).symm

theorem State.takeOut_absent (s : State) (t : TermId) : (s.takeOut t).st.Absent t := by
  obtain ⟨hqueue, -, -⟩ := s.takeOut_fields t
  refine ⟨by simp [hqueue], fun e he => ?_, by simp [State.takeOut_onStack]⟩
  have hmem : t ∈ (s.takeOut t).st.workers := (State.mem_workers _ t).mpr ⟨e, he⟩
  simp [State.takeOut_workers] at hmem

/-- A terminal taken out of every part, its record standing at `r`, and marked. -/
def State.struck (s : State) (t : TermId) (r : TermRec) : State := ((s.takeOut t).st.setTerm t r).mark t

/-- The mode once the terminal no longer waits (R135). -/
def State.modeWithout (s : State) (t : TermId) : Mode :=
  if (s.term t).state.waiting = true ∧ ∀ u, u ≠ t → (s.term u).state.waiting = false then .clear else s.mode

/-- What RETIRE and BAR come to: the terminal struck out with the record `r`, and the check for CLEAR (R16, R17, R135). -/
def State.withdrawn (s : State) (t : TermId) (r : TermRec) : State :=
  ((⟨s.struck t r, (s.takeOut t).due⟩ : Work).checkClearIf (s.term t).state.waiting).close

section Struck

variable (s : State) (t : TermId) (r : TermRec)

theorem State.struck_term (u : TermId) : (s.struck t r).term u = if u = t then r else s.term u := by
  unfold State.struck
  rw [State.mark_term, State.setTerm_term, State.takeOut_term]

theorem State.struck_eq :
    s.struck t r = { s with
      outbox := s.outbox ++ (if (s.term t).state = .serving ∨ s.admitted t = true then [.withdraw t] else [])
      queue := s.queue.filter (· ≠ t)
      engines := mapPlaces (dropJobOf t) s.engines
      stack := s.stack.filter (fun c => c.term ≠ t)
      polls := (s.markStale t).polls
      terms := (s.setTerm t r).terms
      marks := (s.mark t).marks } := by
  unfold State.struck
  rw [State.takeOut_eq]
  rfl

theorem State.struck_mode : (s.struck t r).mode = s.mode := by rw [State.struck_eq]

theorem State.struck_absent : (s.struck t r).Absent t := s.takeOut_absent t

/-- No other terminal waits exactly when none waits once the terminal is struck out. -/
theorem State.struck_someWaiting (hr : r.state.waiting = false) :
    (s.struck t r).someWaiting = false ↔ ∀ u, u ≠ t → (s.term u).state.waiting = false := by
  rw [← Bool.not_eq_true, State.someWaiting_iff, not_exists]
  refine forall_congr' fun u => ?_
  rw [State.struck_term, Bool.not_eq_true]
  by_cases hu : u = t
  · simp [hu, hr]
  · simp [hu]

theorem State.withdrawn_eq (hr : r.state.waiting = false) :
    s.withdrawn t r =
      (⟨{ s.struck t r with
          mode := s.modeWithout t, sectorMark := (s.struck t r).sectorMark || decide (s.modeWithout t ≠ s.mode) },
        (s.takeOut t).due || decide (s.mode = .outage ∧ s.modeWithout t = .clear)⟩ : Work).close := by
  have hm : s.modeWithout t = if (s.term t).state.waiting = true ∧ (s.struck t r).someWaiting = false then .clear
      else (s.struck t r).mode := by
    simp only [State.modeWithout, State.struck_mode, State.struck_someWaiting s t r hr]
  refine congrArg Work.close ((Work.checkClearIf_eq ⟨s.struck t r, (s.takeOut t).due⟩ hm).trans ?_)
  dsimp only
  rw [State.struck_mode]

end Struck

/-- A terminal that has left every part as the statements say (R16, R17). -/
theorem State.withdrawn_takenOut {s : State} {t : TermId} {r : TermRec} (hr : r.state.waiting = false) :
    (s.withdrawn t r).term t = r ∧ s.takenOut (s.withdrawn t r) t ∧ (s.withdrawn t r).kept = s.kept := by
  rw [State.withdrawn_eq s t r hr, State.struck_eq]
  generalize hw : (⟨_, _⟩ : Work) = w
  have hst := congrArg Work.st hw
  have hdue := congrArg Work.due hw
  dsimp only at hst hdue
  obtain ⟨hsector, hout, hpolls, hmode, hwin⟩ := w.close_fields
  have hstruck : w.st.Absent t ∧ ∀ u, w.st.term u = if u = t then r else s.term u := by
    rw [← hst]
    have habsent := s.struck_absent t r
    have hterm := s.struck_term t r
    rw [State.struck_eq] at habsent hterm
    exact ⟨habsent, hterm⟩
  obtain ⟨habsent, hterms⟩ := hstruck
  obtain ⟨⟨hqueue, hworker, hstack⟩, hrec⟩ := w.close_spares t habsent
  have hterm : w.close.term t = r := hrec.trans ((hterms t).trans (if_pos rfl))
  refine ⟨hterm, ⟨hqueue, fun e j hj ht => ?_, fun c hc ht => ?_, fun k => ?_, ?_, ?_, ?_, ?_, fun u hu => ?_, ?_, ?_⟩, ?_⟩
  · exact hworker e (by rw [State.worker, hj, ← ht]; rfl)
  · exact hstack (List.mem_map.mpr ⟨c, hc, ht⟩)
  · rw [State.poll_congr hpolls, ← hst]
    refine (s.markStale_poll t k).trans (congrArg (Option.map · (s.poll k)) (funext fun p => ?_))
    by_cases hp : p.term = t <;> simp [hp]
  · rw [hout, ← hst]
  · refine (w.close_plays t).2 ?_
    rw [← hst]
    exact (s.mark_marked t t).trans (by simp)
  · rw [hwin, ← hst]
  · rw [hmode, ← hst]
    rfl
  · exact (Work.close_sameButPlace_of hterms).2 u hu
  · rw [hsector, hmode, ← hst]
  · have hdue' : w.due = decide ((s.term t).state = .active ∨ (s.term t).state = .suspended ∨
        (s.mode = .outage ∧ s.modeWithout t = .clear)) := by
      rw [← hdue, State.takeOut_eq, ← Bool.decide_or]
      simp only [or_assoc]
    rw [hterm, hmode, ← hst, ← hdue']
    exact State.closedFrom_of_arbPart (a := w.st) (due := w.due) (by rw [← hst]; rfl)
  · rw [Work.close_kept, ← hst]
    rfl

theorem State.takenOut.received {s v : State} {t : TermId} {k : ReqKind} {tag : Byte} {body : List Byte}
    (h : (s.received k tag body).takenOut v t) : s.takenOut v t := by
  obtain ⟨hqueue, hjobs, hstack, hpolls, hout, hmark, hwin, hmode, hothers, hsector, hclosed⟩ := h
  exact ⟨hqueue, hjobs, hstack, hpolls, hout, hmark, hwin, hmode, hothers, hsector, hclosed.of_arbPart rfl⟩

theorem State.takenOut.answer {s v : State} {t : TermId} (h : s.takenOut v t) (rep : Reply) : s.takenOut (v.answer rep) t := h

/-- A request that takes a terminal out and leaves it the record `r`. -/
theorem exec_withdrawn {s : State} {k : ReqKind} {tag : Byte} {body : List Byte} {t : TermId} {r : TermRec}
    (hb : s.reqBuf = none) (hl : body.length = k.bodyLen)
    (hc : carry k body (s.received k tag body) = .done ((s.received k tag body).withdrawn t r))
    (hr : r.state.waiting = false) :
    ∃ v, exec (k.command tag body) s = .next v ∧ v.term t = r ∧ s.takenOut v t ∧ s.sameRest v ∧ v.mlRx = s.mlRx ∧
      v.answers k tag body .ok [] := by
  obtain ⟨hterm, htaken, hkept⟩ := State.withdrawn_takenOut (s := s.received k tag body) (t := t) hr
  exact ⟨_, exec_carried hb hl hc, hterm, htaken.received.answer _, State.answer_frame .ok [] hkept⟩

/-- Settles O25: RETIRE and BAR differ in the record they leave. -/
theorem retireAndBarTakeOut : Obligations.RetireAndBarTakeOut := by
  refine ⟨fun tag body s t hb hl hn hst => ?_, fun tag body s t hb hl hn hst hbar => ?_⟩
  · have hcarry : carry .retire body (s.received .retire tag body) =
        .done ((s.received .retire tag body).withdrawn t .powerOn) := State.onProvisioned_of _ _ hn hst
    exact exec_withdrawn hb hl hcarry rfl
  · have hcarry : carry .bar body (s.received .bar tag body) = .done ((s.received .bar tag body).withdrawn t
        { s.term t with state := .barred, heard := false, missCount := 0, backoff := 0 }) :=
      (State.onProvisioned_of (s.received .bar tag body) _ hn hst).trans (if_neg hbar)
    exact exec_withdrawn hb hl hcarry rfl

end Sys2Proof.Machine
end

section
/-! AMEND: the values and the class stored in every collection, and the power clamped (R13 to R15). -/

namespace Sys2Proof.Machine

/-! ### The values stored -/

/-- The state AMEND leaves before any power clamp: the record's values, and the class where it changes in the collection
that holds the terminal (R13, R14). -/
def State.stored (s : State) (t : TermId) (p : Provisioned) : State :=
  { s with
    terms := (s.setTerm t ((s.term t).withValues p)).terms
    queue := if (s.term t).state = .queued ∧ p.cls ≠ (s.term t).cls then
      (((s.leaveQueue t).setTerm t ((s.term t).withValues p)).joinEnd t).queue else s.queue
    stack := if (s.term t).state = .suspended ∧ p.cls ≠ (s.term t).cls then
      s.stack.map (fun c => if c.term = t then { c with cls := p.cls } else c) else s.stack
    engines := if (s.term t).state = .active ∧ p.cls ≠ (s.term t).cls then
      mapPlaces (fun o => o.map (fun j => if j.term = t then { j with cls := p.cls } else j)) s.engines else s.engines }

/-- A class change of a terminal in a collection makes an evaluation due (R14, R80). -/
def State.regroups (s : State) (t : TermId) (p : Provisioned) : Bool :=
  decide ((s.term t).state ∈ [TermState.queued, .active, .suspended] ∧ p.cls ≠ (s.term t).cls)

theorem State.storeValues_eq (s : State) (t : TermId) (p : Provisioned) :
    s.storeValues t p = ⟨s.stored t p, s.regroups t p⟩ := by
  unfold State.storeValues State.stored State.regroups
  dsimp only
  by_cases hc : p.cls = (s.term t).cls
  · rw [if_pos hc]
    simp only [hc, ne_eq, not_true_eq_false, and_false, if_false, decide_false]
    rw [← hc]
    rfl
  · rw [if_neg hc]
    unfold State.changeClass
    rw [State.setTerm_term_self]
    have hwrite : ∀ x : State, (x.setTerm t ((s.term t).withValues { p with cls := (s.term t).cls })).setTerm t
        { (s.term t).withValues { p with cls := (s.term t).cls } with cls := p.cls } =
          x.setTerm t ((s.term t).withValues p) := fun x => State.setTerm_setTerm x t _ _
    split
    · next hq =>
      have hst : (s.term t).state = .queued := hq
      simp only [hst, hc, ne_eq, not_false_eq_true, and_self, if_true, reduceCtorEq, false_and, if_false]
      have hleave : ∀ r, (s.setTerm t r).leaveQueue t = (s.leaveQueue t).setTerm t r := fun _ => rfl
      rw [hleave, hwrite]
      rfl
    · next ha =>
      have hst : (s.term t).state = .active := ha
      simp only [hst, hc, ne_eq, not_false_eq_true, and_self, if_true, reduceCtorEq, false_and, if_false]
      rw [hwrite]
      rfl
    · next hs =>
      have hst : (s.term t).state = .suspended := hs
      simp only [hst, hc, ne_eq, not_false_eq_true, and_self, if_true, reduceCtorEq, false_and, if_false]
      rw [hwrite]
      rfl
    · next hq ha hs =>
      rw [hwrite]
      have hst : (s.term t).state ≠ .queued ∧ (s.term t).state ≠ .active ∧ (s.term t).state ≠ .suspended := ⟨hq, ha, hs⟩
      obtain ⟨hq, ha, hs⟩ := hst
      simp only [hq, ha, hs, false_and, if_false, List.mem_cons, List.not_mem_nil, or_self, decide_false]
      rfl

theorem State.stored_term (s : State) (t u : TermId) (p : Provisioned) :
    (s.stored t p).term u = if u = t then (s.term t).withValues p else s.term u :=
  State.setTerm_term ..

/-- With the class unchanged only the record is written. -/
theorem State.stored_of_cls {s : State} {t : TermId} {p : Provisioned} (hc : p.cls = (s.term t).cls) :
    s.stored t p = s.setTerm t ((s.term t).withValues p) := by
  unfold State.stored
  simp only [hc, ne_eq, not_true_eq_false, and_false, if_false]
  rfl

/-- The work of AMEND before the end of the event. -/
def State.amended (s : State) (t : TermId) (p : Provisioned) : Work :=
  (s.storeValues t p).andThen (fun s => .quiet (s.clampIfAbove t))

theorem State.amended_eq (s : State) (t : TermId) (p : Provisioned) :
    s.amended t p = ⟨if p.pmax < (s.term t).pc then (s.stored t p).clampPower t else s.stored t p, s.regroups t p⟩ := by
  unfold State.amended Work.andThen State.clampIfAbove
  rw [State.storeValues_eq]
  simp only [State.stored_term, if_true, Work.quiet, Bool.or_false]
  rfl

/-- AMEND of a provisioned terminal is carried out and answered. -/
theorem exec_amend {tag : Byte} {body : List Byte} {s : State} {t : TermId} (hb : s.reqBuf = none) (hl : body.length = 9)
    (hn : numAt body 0 = numberOf t) (hst : (s.term t).state ≠ .unused) :
    exec (.amend tag body) s =
      .next (((s.received .amend tag body).amended t (provisionedAt body).clamped).close.answer
        ⟨tag, ReqKind.amend.code, .ok, []⟩) := by
  have hcarry : carry .amend body (s.received .amend tag body) =
      .done ((s.received .amend tag body).amended t (provisionedAt body).clamped).close :=
    State.onProvisioned_of (s.received .amend tag body) _ hn hst
  exact exec_carried (k := .amend) hb hl hcarry

/-! ### The class unchanged, no clamp -/

/-- The condition of preempt-pending reads the classes of the records and nothing else of them (R84, R89). -/
theorem State.preemptBlocked_setTerm (s : State) {t : TermId} {r : TermRec} (hc : r.cls = (s.term t).cls) :
    (s.setTerm t r).preemptBlocked = s.preemptBlocked := by
  have hcls : ∀ u, ((s.setTerm t r).term u).cls = (s.term u).cls := fun u => by
    rw [State.setTerm_term]
    split
    · next hu => rw [hu, hc]
    · rfl
  have hvictim : (s.setTerm t r).victim = s.victim := rfl
  rw [Bool.eq_iff_iff, State.preemptBlocked_iff, State.preemptBlocked_iff, hvictim]
  simp only [hcls, State.setTerm_job, State.setTerm_stack, State.setTerm_queue]

theorem State.reexamine_of_flag {s : State} (h : s.preemptPending = s.preemptBlocked) : s.reexamine = s := by
  unfold State.reexamine
  rw [← h]

theorem State.regroups_of_cls {s : State} {t : TermId} {p : Provisioned} (hc : p.cls = (s.term t).cls) :
    s.regroups t p = false :=
  decide_eq_false fun h => h.2 hc

/-- AMEND with the class unchanged and no clamp ends with the values written, if the flag was right before. -/
theorem State.amended_close_same {s : State} {t : TermId} {p : Provisioned} (hflag : s.preemptPending = s.preemptBlocked)
    (hc : p.cls = (s.term t).cls) (hpc : (s.term t).pc ≤ p.pmax) :
    (s.amended t p).close = s.setTerm t ((s.term t).withValues p) := by
  rw [State.amended_eq, if_neg (Nat.not_lt.mpr hpc), State.stored_of_cls hc, State.regroups_of_cls hc]
  exact State.reexamine_of_flag (hflag.trans (s.preemptBlocked_setTerm hc).symm)

/-- Settles O22: the record is written, and the flag of R89 stands. -/
theorem amendStoresValues : Obligations.AmendStoresValues := by
  intro tag body s t hflag hb hl hn hst hcls hpc
  have hclose := State.amended_close_same (s := s.received .amend tag body) (t := t) (p := (provisionedAt body).clamped) hflag
    (by rw [provisionedAt_clamped]; exact hcls) (by rw [provisionedAt_clamped]; exact hpc)
  rw [exec_amend hb hl hn hst, hclose, provisionedAt_clamped]
  unfold TermRec.withValues
  rw [hcls]
  rfl

end Sys2Proof.Machine
end

section
/-! AMEND that changes the class (R14). -/

namespace Sys2Proof.Machine

section Stored

variable {s : State} {t : TermId} {p : Provisioned} {w : Work}

theorem Work.stored_sameButPlace (hw : w.st = s.stored t p) :
    ((s.term t).withValues p).sameButPlace (w.close.term t) ∧
    ∀ u, u ≠ t → (s.term u).sameButPlace (w.close.term u) :=
  Work.close_sameButPlace_of fun u => hw ▸ s.stored_term t u p

/-- Where the class changes, the collections that hold the terminal are the ones written (R14). -/
theorem Work.stored_closedFrom (hw : w.st = s.stored t p) (hdue : w.due = s.regroups t p) (hc : p.cls ≠ (s.term t).cls) :
    w.close.closedFrom
      ⟨{ s with
          terms := (s.setTerm t ((s.term t).withValues p)).terms
          queue := if (s.term t).state = .queued then
            (((s.leaveQueue t).setTerm t ((s.term t).withValues p)).joinEnd t).queue else s.queue
          stack := if (s.term t).state = .suspended then
            s.stack.map (fun c => if c.term = t then { c with cls := p.cls } else c) else s.stack
          engines := if (s.term t).state = .active then
            mapPlaces (fun o => o.map (fun j => if j.term = t then { j with cls := p.cls } else j)) s.engines
            else s.engines },
        decide ((s.term t).state ∈ [TermState.queued, .active, .suspended])⟩ := by
  have hregroups : w.due = decide ((s.term t).state ∈ [TermState.queued, .active, .suspended]) := by
    rw [hdue]
    simp only [State.regroups, hc, ne_eq, not_false_eq_true, and_true]
  rw [← hregroups]
  refine State.closedFrom_of_arbPart (a := w.st) (due := w.due) ?_
  rw [hw]
  simp only [State.stored, hc, ne_eq, not_false_eq_true, and_true, State.arbPart]

end Stored

theorem State.amended_unclamped {s : State} {t : TermId} {p : Provisioned} (h : (s.term t).pc ≤ p.pmax) :
    s.amended t p = ⟨s.stored t p, s.regroups t p⟩ := by
  rw [State.amended_eq, if_neg (Nat.not_lt.mpr h)]

/-- Settles O24: the values stored with the class in its collection, and the end of the event. -/
theorem amendChangesClass : Obligations.AmendChangesClass := by
  intro tag body s t hb hl hn hst hcls hpc
  have hexec := exec_amend (tag := tag) hb hl hn hst
  rw [State.amended_unclamped (by rw [provisionedAt_clamped]; exact hpc), provisionedAt_clamped] at hexec
  generalize hw : (⟨_, _⟩ : Work) = w at hexec
  have hst := (congrArg Work.st hw).symm
  have hdue := (congrArg Work.due hw).symm
  obtain ⟨hsector, hout, hpolls, hmode, hwin⟩ := w.close_fields
  obtain ⟨hown, hothers⟩ := Work.stored_sameButPlace hst
  have hclosed := Work.stored_closedFrom hst hdue hcls
  have hrest : w.st.arbKept = (s.received .amend tag body).arbKept := by rw [hst]; rfl
  exact ⟨_, _, hexec, rfl, hown, hothers, hclosed.of_arbPart rfl, hsector.trans (arbKept_sectorMark hrest :),
    hout.trans (arbKept_outbox hrest :), hmode.trans (arbKept_mode hrest :), hpolls.trans (arbKept_polls hrest :),
    hwin.trans (arbKept_lossWindow hrest :), State.answer_frame .ok [] (w.close_kept.trans (arbKept_kept hrest))⟩

end Sys2Proof.Machine
end

section
/-! AMEND to a Pmax below Pc: the superseding command, and what the engine of the terminal learns of it (R15, R28, R30). -/

namespace Sys2Proof.Machine

theorem places_ext {α : Type} {n : Nat} {v w : Vector α n} (h : ∀ i, v.get i = w.get i) : v = w :=
  Vector.ext fun i hi => h ⟨i, hi⟩

/-! ### What an engine learns of a command -/

/-- A job told of a command issued for its terminal (R28, R30). -/
def Job.noted (j : Job) (f : FrameNo) (g : Gate) : Job :=
  match j.phase with
  | .settle => { j with cmdFrame := some f }
  | .verify => { j with cmdFrame := some f, gate := some g }
  | _ => j

theorem Job.noted_eq (j : Job) (f : FrameNo) (g : Gate) :
    j.noted f g = { j with
      cmdFrame := if j.phase.searching = false then some f else j.cmdFrame
      gate := if j.phase = .verify then some g else j.gate } := by
  obtain ⟨_, _, _, phase, _, _, _, _, _, _, _, _, _, _⟩ := j
  cases phase <;> rfl

theorem State.noteCommand_eq (s : State) (t : TermId) (f : FrameNo) :
    s.noteCommand t f = { s with engines := (s.noteCommand t f).engines } := by
  unfold State.noteCommand
  cases s.engineOf t with
  | none => rfl
  | some e =>
    dsimp only
    cases s.job e with
    | none => rfl
    | some j =>
      dsimp only
      cases j.phase <;> rfl

theorem State.noteCommand_job (s : State) (t : TermId) (f : FrameNo) (e : EngineId) :
    (s.noteCommand t f).job e =
      if s.engineOf t = some e then (s.job e).map (fun j => j.noted f (s.verifyGate t (some f))) else s.job e := by
  unfold State.noteCommand
  cases s.engineOf t with
  | none => simp
  | some e' =>
    dsimp only
    by_cases he : e = e'
    · subst he
      cases hj : s.job e with
      | none => simp [hj]
      | some j =>
        dsimp only
        rw [if_pos rfl, Option.map_some, Job.noted]
        cases j.phase <;> simp [hj]
    · rw [if_neg (by simpa using Ne.symm he)]
      cases s.job e' with
      | none => rfl
      | some j =>
        dsimp only
        cases j.phase <;> simp [State.setJob_job_ne _ _ he]

/-! ### The clamp -/

theorem TermRec.withValues_completed (r : TermRec) (p : Machine.Provisioned) (n : FrameNo) :
    (r.withValues p).completed n = (r.completed n).withValues p := by
  have hpending : (r.withValues p).pendingCmd = r.pendingCmd := rfl
  have heffective : (r.withValues p).effective = r.effective.withValues p := by
    unfold TermRec.effective
    rw [hpending]
    cases r.pendingCmd <;> rfl
  have hat : (r.withValues p).atEffect n = r.atEffect n := rfl
  unfold TermRec.completed
  rw [hat, heffective]
  split <;> rfl

/-- The record AMEND leaves where it clamps the power (R13, R15, R57, R59). -/
def State.cappedRec (s : State) (t : TermId) (p : Provisioned) : TermRec :=
  (((s.term t).completed s.lastFrame).withValues p).superseded p.pmax s.effectFrame

/-- The job AMEND leaves on an engine where it clamps the power (R14, R28, R30). -/
def State.cappedJob (s : State) (t : TermId) (p : Provisioned) (e : EngineId) (j : Job) : Job :=
  { j with
    cls := if j.term = t ∧ (s.term t).state = .active ∧ p.cls ≠ (s.term t).cls then p.cls else j.cls
    cmdFrame := if j.phase.searching = false ∧ s.engineOf t = some e then some s.effectFrame else j.cmdFrame
    gate := if j.phase = .verify ∧ s.engineOf t = some e then some ⟨p.depth, p.pmax, some s.effectFrame, 0, 0, 0, 0⟩
      else j.gate }

/-- The state AMEND leaves before the end of the event where it clamps the power. -/
def State.capped (s : State) (t : TermId) (p : Provisioned) : State :=
  { s.stored t p with
    terms := (s.setTerm t (s.cappedRec t p)).terms
    outbox := s.outbox ++ [.power t p.pmax s.effectFrame]
    engines := placesOf (fun e => (s.job e).map (s.cappedJob t p e)) }

theorem State.stored_job (s : State) (t : TermId) (p : Provisioned) (e : EngineId) :
    (s.stored t p).job e = (s.job e).map (fun j => { j with
      cls := if j.term = t ∧ (s.term t).state = .active ∧ p.cls ≠ (s.term t).cls then p.cls else j.cls }) := by
  unfold State.stored State.job
  dsimp only
  by_cases h : (s.term t).state = .active ∧ p.cls ≠ (s.term t).cls
  · rw [if_pos h, mapPlaces_get]
    refine congrArg (Option.map · _) (funext fun j => ?_)
    by_cases hj : j.term = t <;> simp [hj, h]
  · rw [if_neg h]
    simp [h]

theorem State.stored_engineOf (s : State) (t u : TermId) (p : Provisioned) :
    (s.stored t p).engineOf u = s.engineOf u := by
  unfold State.engineOf
  refine congrArg (List.find? · _) (funext fun e => ?_)
  rw [State.stored_job]
  cases s.job e <;> rfl

theorem State.clampPower_eq (x : State) (t : TermId) :
    x.clampPower t =
      ((x.setTerm t (((x.term t).completed x.lastFrame).superseded (x.term t).pmax x.effectFrame)).send
        (.power t (x.term t).pmax x.effectFrame)).noteCommand t x.effectFrame := by
  have hpmax : ((x.term t).completed x.lastFrame).pmax = (x.term t).pmax := by
    unfold TermRec.completed TermRec.effective
    split <;> [split; skip] <;> rfl
  have hissue : ((x.term t).completed x.lastFrame).issueValue ((x.term t).completed x.lastFrame).pmax = (x.term t).pmax := by
    unfold TermRec.issueValue
    rw [clampNat_zero, hpmax, Nat.min_self]
  have hframe : (x.complete t).effectFrame = x.effectFrame := rfl
  unfold State.clampPower
  dsimp only
  rw [State.complete_term_self, hissue, hframe]
  unfold State.complete
  rw [State.setTerm_setTerm]

theorem State.clampPower_stored (s : State) (t : TermId) (p : Provisioned) :
    (s.stored t p).clampPower t = s.capped t p := by
  have hterm : (s.stored t p).term t = (s.term t).withValues p := (s.stored_term t t p).trans (if_pos rfl)
  have hrec : (((s.term t).withValues p).completed s.lastFrame).superseded p.pmax s.effectFrame = s.cappedRec t p := by
    rw [TermRec.withValues_completed]
    rfl
  rw [State.clampPower_eq, hterm]
  generalize hy : State.send _ _ = y
  have hy' : y = { s.stored t p with
      terms := (s.setTerm t (s.cappedRec t p)).terms, outbox := s.outbox ++ [.power t p.pmax s.effectFrame] } := by
    have hset := congrArg State.terms (s.setTerm_setTerm t ((s.term t).withValues p) (s.cappedRec t p))
    rw [← hy]
    show ({ s.stored t p with terms := ((s.stored t p).setTerm t _).terms, outbox := _ } : State) = _
    rw [← hset, ← hrec]
    rfl
  have hengines : (y.noteCommand t s.effectFrame).engines = placesOf (fun e => (s.job e).map (s.cappedJob t p e)) := by
    refine places_ext fun e => ?_
    rw [placesOf_get]
    refine (y.noteCommand_job t s.effectFrame e).trans ?_
    have hengine : y.engineOf t = s.engineOf t := by
      rw [hy', ← s.stored_engineOf t t p]
      rfl
    have hjob : y.job e = (s.stored t p).job e := by rw [hy']; rfl
    have hgate : y.verifyGate t (some s.effectFrame) = ⟨p.depth, p.pmax, some s.effectFrame, 0, 0, 0, 0⟩ := by
      have hown : y.term t = s.cappedRec t p := by rw [hy']; exact s.setTerm_term_self t _
      unfold State.verifyGate
      rw [hown]
      rfl
    rw [hengine, hjob, hgate, State.stored_job]
    by_cases he : s.engineOf t = some e
    · rw [if_pos he, Option.map_map]
      refine congrArg (Option.map · _) (funext fun j => ?_)
      simp [Job.noted_eq, State.cappedJob, he]
    · rw [if_neg he]
      refine congrArg (Option.map · _) (funext fun j => ?_)
      simp [State.cappedJob, he]
  rw [State.noteCommand_eq]
  show ({ y with engines := (y.noteCommand t s.effectFrame).engines } : State) = _
  rw [hengines, hy']
  rfl

end Sys2Proof.Machine
end

section
/-! AMEND to a Pmax below Pc, to the end of the event (R13 to R15). -/

namespace Sys2Proof.Machine

/-- The place a terminal takes in the queue depends on its record's group alone (R73, R74). -/
theorem State.joinEnd_queue_congr (s : State) (t : TermId) {r r' : TermRec} (h : r.group = r'.group) :
    ((s.setTerm t r).joinEnd t).queue = ((s.setTerm t r').joinEnd t).queue := by
  have hgroup : ∀ u, ((s.setTerm t r).term u).group = ((s.setTerm t r').term u).group := fun u => by
    rw [State.setTerm_term, State.setTerm_term]
    split
    · exact h
    · rfl
  unfold State.joinEnd
  simp only [State.setQueue_queue, State.setTerm_queue, hgroup]

section Capped

variable {s : State} {t : TermId} {p : Provisioned} {w : Work}

theorem State.capped_term (u : TermId) : (s.capped t p).term u = if u = t then s.cappedRec t p else s.term u :=
  State.setTerm_term ..

theorem State.capped_job (e : EngineId) : (s.capped t p).job e = (s.job e).map (s.cappedJob t p e) :=
  placesOf_get ..

theorem State.cappedRec_place : (s.cappedRec t p).state = (s.term t).state ∧ (s.cappedRec t p).heard = (s.term t).heard := by
  have hheard : ((s.term t).completed s.lastFrame).heard = (s.term t).heard := by
    unfold TermRec.completed TermRec.effective
    split <;> [split; skip] <;> rfl
  exact ⟨(s.term t).completed_state s.lastFrame, hheard⟩

theorem Work.capped_sameButPlace (hw : w.st = s.capped t p) :
    (s.cappedRec t p).sameButPlace (w.close.term t) ∧ ∀ u, u ≠ t → (s.term u).sameButPlace (w.close.term u) :=
  Work.close_sameButPlace_of fun u => hw ▸ State.capped_term u

/-- The record before the evaluation, got back from the record after it. -/
theorem Work.capped_record (hw : w.st = s.capped t p) :
    ({ w.close.term t with state := (s.term t).state, heard := (s.term t).heard } : TermRec) = s.cappedRec t p := by
  obtain ⟨hown, -⟩ := Work.capped_sameButPlace hw
  obtain ⟨hstate, hheard⟩ := State.cappedRec_place (s := s) (t := t) (p := p)
  rw [hown, ← hstate, ← hheard]

/-- An engine in VERIFY begins a new gate at the clamped power (R30). -/
theorem Work.capped_verify (hw : w.st = s.capped t p) {e : EngineId} {j : Job} (hj : s.holds t e j)
    (hphase : j.phase = .verify) :
    ∃ j', w.close.job e = some j' ∧ j'.phase = .verify ∧
      j'.gate = some ⟨p.depth, p.pmax, some s.effectFrame, 0, 0, 0, 0⟩ := by
  obtain ⟨-, hengine, hjob⟩ := hj
  have hst : w.st.job e = some (s.cappedJob t p e j) := by rw [hw, State.capped_job, hjob]; rfl
  have hadmitted : (s.cappedJob t p e j).phase.searching = false := by
    show j.phase.searching = false
    rw [hphase]
    rfl
  exact ⟨_, w.close_keepsAdmitted e _ hst hadmitted, hphase, if_pos ⟨hphase, hengine⟩⟩

/-- What the end of the event is told from. -/
theorem Work.capped_closedFrom (hw : w.st = s.capped t p) (hdue : w.due = s.regroups t p) :
    ∃ es : Vector (Option Job) 4, (∀ e, es.get e = (s.job e).map (s.cappedJob t p e)) ∧ w.close.closedFrom
      ⟨{ s with
          terms := (s.setTerm t { w.close.term t with state := (s.term t).state, heard := (s.term t).heard }).terms
          queue := if (s.term t).state = .queued ∧ p.cls ≠ (s.term t).cls then
            (((s.leaveQueue t).setTerm t { s.term t with cls := p.cls }).joinEnd t).queue else s.queue
          stack := if (s.term t).state = .suspended then
            s.stack.map (fun c => if c.term = t then
              { c with cls := if p.cls = (s.term t).cls then c.cls else p.cls } else c)
            else s.stack
          engines := es },
        s.regroups t p⟩ := by
  refine ⟨(s.capped t p).engines, State.capped_job, ?_⟩
  rw [Work.capped_record hw, ← hdue]
  refine State.closedFrom_of_arbPart (a := w.st) (due := w.due) ?_
  have hqueue : (((s.leaveQueue t).setTerm t { s.term t with cls := p.cls }).joinEnd t).queue =
      (((s.leaveQueue t).setTerm t ((s.term t).withValues p)).joinEnd t).queue :=
    State.joinEnd_queue_congr (s.leaveQueue t) t rfl
  have hstack : (if (s.term t).state = .suspended then
        s.stack.map (fun c => if c.term = t then
          { c with cls := if p.cls = (s.term t).cls then c.cls else p.cls } else c) else s.stack) =
      (s.stored t p).stack := by
    unfold State.stored
    by_cases hc : p.cls = (s.term t).cls <;> simp [hc]
  rw [hw, hqueue, hstack]
  rfl

/-- With the class unchanged the arbiter does not evaluate (R14), and the engine of the terminal alone learns of the
command. -/
theorem Work.capped_sameClass (hw : w.st = s.capped t p) (hdue : w.due = s.regroups t p) (hc : p.cls = (s.term t).cls) :
    (w.close.term t).state = (s.term t).state ∧ (w.close.term t).heard = (s.term t).heard ∧
    (∀ u, u ≠ t → w.close.term u = s.term u) ∧ w.close.queue = s.queue ∧ w.close.stack = s.stack ∧
    w.close.serial = s.serial ∧ w.close.marks = s.marks ∧ w.close.preemptPending = w.close.preemptBlocked ∧
    (∀ e, s.engineOf t ≠ some e → w.close.job e = s.job e) ∧
    (∀ e j, s.engineOf t = some e → s.job e = some j →
      w.close.job e = some (j.noted s.effectFrame ⟨p.depth, p.pmax, some s.effectFrame, 0, 0, 0, 0⟩)) := by
  have hclose : w.close = (s.capped t p).reexamine := by
    unfold Work.close
    rw [hdue, State.regroups_of_cls hc, hw]
    rfl
  have hterm : ∀ u, w.close.term u = if u = t then s.cappedRec t p else s.term u := fun u => by
    rw [hclose]
    exact State.capped_term u
  have hjob : ∀ e, w.close.job e = (s.job e).map (s.cappedJob t p e) := fun e => by
    rw [hclose]
    exact State.capped_job e
  have hstored := State.stored_of_cls hc
  obtain ⟨hstate, hheard⟩ := State.cappedRec_place (s := s) (t := t) (p := p)
  refine ⟨?_, ?_, fun u hu => (hterm u).trans (if_neg hu), ?_, ?_, ?_, ?_, ?_, fun e he => ?_, fun e j he hj => ?_⟩
  · rw [hterm, if_pos rfl, hstate]
  · rw [hterm, if_pos rfl, hheard]
  · rw [hclose]
    exact (congrArg State.queue hstored :)
  · rw [hclose]
    exact (congrArg State.stack hstored :)
  · rw [hclose]
    rfl
  · rw [hclose]
    rfl
  · rw [hclose]
    rfl
  · have hid : s.cappedJob t p e = id := funext fun j => by simp [State.cappedJob, hc, he]
    rw [hjob, hid, Option.map_id_fun, id]
  · rw [hjob, hj, Option.map_some, Job.noted_eq]
    simp [State.cappedJob, hc, he]

end Capped

/-- Settles O23: the values stored, the superseding command, and the end of the event told from what they leave. -/
theorem amendClampsPower : Obligations.AmendClampsPower := by
  intro tag body s t hb hl hn hst hpc
  have hclamped : (s.received .amend tag body).amended t (provisionedAt body).clamped =
      ⟨(s.received .amend tag body).capped t (provisionedAt body).clamped,
        (s.received .amend tag body).regroups t (provisionedAt body).clamped⟩ := by
    rw [State.amended_eq, if_pos, State.clampPower_stored]
    rw [provisionedAt_clamped]
    exact hpc
  have hexec := exec_amend (tag := tag) hb hl hn hst
  rw [hclamped, provisionedAt_clamped] at hexec
  generalize hw : (⟨_, _⟩ : Work) = w at hexec
  have hst := (congrArg Work.st hw).symm
  have hdue := (congrArg Work.due hw).symm
  obtain ⟨hsector, hout, hpolls, hmode, hwin⟩ := w.close_fields
  obtain ⟨hown, hothers⟩ := Work.capped_sameButPlace hst
  obtain ⟨es, hes, hclosed⟩ := Work.capped_closedFrom hst hdue
  have hkept : w.close.kept = (s.received .amend tag body).kept := w.close_kept.trans (by rw [hst]; rfl)
  refine ⟨_, _, _, _, hexec, rfl, rfl, rfl, ⟨_, _, hown⟩, hout.trans (by rw [hst]; rfl), hothers,
    fun e j hj => Work.capped_verify hst hj, fun hc => Work.capped_sameClass hst hdue hc, ⟨es, hes, hclosed.of_arbPart rfl⟩,
    hmode.trans (by rw [hst]; rfl), hsector.trans (by rw [hst]; rfl), hpolls.trans (by rw [hst]; rfl),
    hwin.trans (by rw [hst]; rfl), State.answer_frame .ok [] hkept⟩

end Sys2Proof.Machine
end

section
/-! The phases of the contexts and the shape of the jobs (R28, R87, R92, R113): every operation keeps them. -/

namespace Sys2Proof.Machine

/-! ### The shape of a job -/

/-- A job without a ramp and an admit frame, as a search has it (R92). -/
def Job.Unadmitted (j : Job) : Prop := j.ramp = none ∧ j.admitFrame = none

/-- A job with an admit frame that waits on no poll, as SETTLE and VERIFY have it (R92). -/
def Job.Settled (j : Job) : Prop := j.admitFrame.isSome = true ∧ j.pollInFlight = none

theorem Job.shaped_search {j : Job} (h : j.phase.searching = true) :
    j.shaped = true ↔ j.gate.isSome = true ∧ j.Unadmitted := by
  unfold Job.shaped Job.Unadmitted
  cases hp : j.phase <;> simp_all [Phase.searching, and_assoc]

theorem Job.shaped_settle {j : Job} (h : j.phase = .settle) :
    j.shaped = true ↔ j.gate = none ∧ j.ramp.isSome = true ∧ j.Settled := by
  unfold Job.shaped Job.Settled
  rw [h]
  simp [and_assoc]

theorem Job.shaped_verify {j : Job} (h : j.phase = .verify) :
    j.shaped = true ↔ j.gate.isSome = true ∧ j.ramp = none ∧ j.Settled := by
  unfold Job.shaped Job.Settled
  rw [h]
  simp [and_assoc]

theorem Job.shaped_beginGate {j : Job} (r : TermRec) (h : j.phase.searching = true) (hu : j.Unadmitted) :
    (j.beginGate r).shaped = true :=
  (Job.shaped_search (by exact h)).mpr ⟨rfl, hu⟩

/-- A job's poll has come back. -/
theorem Job.shaped_answered {j : Job} (h : j.shaped = true) : ({ j with pollInFlight := none } : Job).shaped = true := by
  unfold Job.shaped at h ⊢
  cases hp : j.phase <;> simp_all

/-- A search sends a poll. -/
theorem Job.shaped_polled {j : Job} (k : PollTag) (hp : j.phase.searching = true) (h : j.shaped = true) :
    ({ j with pollInFlight := some k } : Job).shaped = true :=
  (Job.shaped_search (by exact hp)).mpr ((Job.shaped_search hp).mp h)

theorem Job.shaped_noted {j : Job} (f : FrameNo) (g : Gate) (h : j.shaped = true) : (j.noted f g).shaped = true := by
  unfold Job.noted
  split
  · exact h
  · next hp =>
    obtain ⟨-, hrest⟩ := (Job.shaped_verify hp).mp h
    exact (Job.shaped_verify (by exact hp)).mpr ⟨rfl, hrest⟩
  · exact h

theorem Job.shaped_slipped {j : Job} (n : FrameNo) (h : j.shaped = true) : (j.slipped n).shaped = true := by
  unfold Job.slipped
  split
  · next hp =>
    refine (Job.shaped_settle (by exact hp)).mpr ?_
    obtain ⟨hgate, hramp, hadmit, hpoll⟩ := (Job.shaped_settle hp).mp h
    exact ⟨hgate, hramp, by simpa using hadmit, hpoll⟩
  · next hp =>
    refine (Job.shaped_verify (by exact hp)).mpr ?_
    obtain ⟨hgate, hrest⟩ := (Job.shaped_verify hp).mp h
    exact ⟨by simpa using hgate, hrest⟩
  · exact h

theorem Job.shaped_countMark (j : Job) : j.countMark.shaped = j.shaped := by
  unfold Job.countMark Job.shaped
  cases j.phase <;> simp

/-! ### The two laws together -/

/-- Every context searches, and where `full` stands every job is shaped by its phase. -/
structure State.Shapes (full : Prop) (s : State) : Prop where
  contexts : ContextLaw s
  jobs : full → JobLaw s

namespace State.Shapes

variable {full : Prop} {s v : State} {e : EngineId} {j : Job} {t : TermId}

/-- Neither law speaks of anything but the stack and the engines. -/
theorem rest (h : s.Shapes full) (hk : v.stack = s.stack := by rfl) (he : v.engines = s.engines := by rfl) :
    v.Shapes full where
  contexts c hc := h.contexts c (hk ▸ hc)
  jobs hf e := by
    rw [State.job_congr he]
    exact h.jobs hf e

theorem job (h : s.Shapes full) (hj : s.job e = some j) (hf : full) : j.shaped = true := by
  have hlaw := h.jobs hf e
  rwa [hj] at hlaw

theorem setJob {o : Option Job} (h : s.Shapes full) (ho : full → o.all Job.shaped = true) :
    (s.setJob e o).Shapes full where
  contexts := h.contexts
  jobs hf f := by
    rw [State.setJob_job]
    split
    · exact ho hf
    · exact h.jobs hf f

theorem work (h : s.Shapes full) (hj : full → j.shaped = true) : (s.setJob e (some j)).Shapes full := h.setJob hj

theorem idle (h : s.Shapes full) : (s.setJob e none).Shapes full := h.setJob fun _ => rfl

/-- A search goes on with a new gate. -/
theorem search (h : s.Shapes full) (r : TermRec) (hp : j.phase.searching = true) (hu : full → j.Unadmitted) :
    (s.setJob e (some (j.beginGate r))).Shapes full :=
  h.work fun hf => Job.shaped_beginGate r hp (hu hf)

theorem setTerm {r : TermRec} (h : s.Shapes full) : (s.setTerm t r).Shapes full := h.rest

theorem send {m : OutMsg} (h : s.Shapes full) : (s.send m).Shapes full := h.rest

theorem mark (h : s.Shapes full) : (s.mark t).Shapes full := h.rest

theorem complete (h : s.Shapes full) : (s.complete t).Shapes full := h.rest

theorem leaveQueue (h : s.Shapes full) : (s.leaveQueue t).Shapes full := h.rest

theorem nextSerial (h : s.Shapes full) : s.nextSerial.Shapes full := h.rest

theorem transition {a b : TermState} (h : s.Shapes full) : (s.transition t a b).Shapes full :=
  h.rest (by simp) (by simp)

theorem setMode {m : Mode} (h : s.Shapes full) : (s.setMode m).Shapes full := by
  unfold State.setMode
  split
  · exact h
  · exact h.rest

theorem join (h : s.Shapes full) : (s.join t).Shapes full := by
  obtain ⟨-, -, -, hk, he, -⟩ := s.join_fields t
  exact h.rest hk he

theorem rejoin {r : TermRec} (h : s.Shapes full) : (s.rejoin t r).Shapes full :=
  h.rest (s.rejoin_stack t r) (s.rejoin_engines t r)

theorem writeProfiles {up down : Nat} (h : s.Shapes full) : (s.writeProfiles t up down).Shapes full := by
  unfold State.writeProfiles
  dsimp only
  split <;> exact h.rest

/-! ### The arbiter -/

theorem grant (h : s.Shapes full) : (s.grant e t).Shapes full :=
  h.leaveQueue.transition.setTerm.nextSerial.search _ rfl fun _ => ⟨rfl, rfl⟩

theorem resume {c : Context} {below : List Context} (h : s.Shapes full) (hk : s.stack = c :: below) :
    (s.resume e c below).Shapes full := by
  have hc : c.phase.searching = true := h.contexts c (by simp [hk])
  have hbelow : (s.setStack below).Shapes full := ⟨fun d hd => h.contexts d (by rw [hk]; exact .tail _ hd), h.jobs⟩
  exact hbelow.transition.nextSerial.search _ hc fun _ => ⟨rfl, rfl⟩

theorem setAside (h : s.Shapes full) (hp : j.phase.searching = true) : (s.setAside e j).Shapes full := by
  have hpush : (s.setStack (j.context :: s.stack)).Shapes full := by
    refine ⟨fun c hc => ?_, h.jobs⟩
    rcases List.mem_cons.mp hc with rfl | hc
    · exact hp
    · exact h.contexts c hc
  exact hpush.transition.idle

theorem evaluate (h : s.Shapes full) : s.evaluate.Shapes full :=
  State.evaluate_ind (R := fun s v => s.Shapes full → v.Shapes full) (fun _ => id) (fun hab hbc h => hbc (hab h))
    (fun _ _ _ _ _ h => h.grant) (fun _ _ _ _ _ hk h => h.resume hk) (fun _ _ _ _ hp h => h.setAside hp) s h

theorem close {w : Work} (h : w.st.Shapes full) : w.close.Shapes full := by
  unfold Work.close
  split
  · exact h.evaluate.rest
  · exact h.rest

theorem trigger (h : s.Shapes full) : (Work.trigger s).st.Shapes full := h

theorem checkClear {w : Work} (h : w.st.Shapes full) : w.checkClear.st.Shapes full := by
  unfold Work.checkClear
  split
  · exact h
  · exact h.setMode

theorem checkClearIf {w : Work} {left : Bool} (h : w.st.Shapes full) : (w.checkClearIf left).st.Shapes full := by
  unfold Work.checkClearIf
  split
  · exact h.checkClear
  · exact h

/-! ### Power commands -/

theorem noteCommand {f : FrameNo} (h : s.Shapes full) : (s.noteCommand t f).Shapes full where
  contexts c hc := h.contexts c (by simpa using hc)
  jobs hf e := by
    have hlaw := h.jobs hf e
    rw [State.noteCommand_job]
    split
    · cases hj : s.job e with
      | none => rfl
      | some j => exact Job.shaped_noted _ _ (h.job hj hf)
    · exact hlaw

theorem requestPower {p : Nat} (h : s.Shapes full) : (s.requestPower t p).Shapes full := by
  unfold State.requestPower
  dsimp only
  split
  · exact h.complete
  · split
    · exact h.complete
    · exact h.complete.setTerm.send.noteCommand

theorem clampPower (h : s.Shapes full) : (s.clampPower t).Shapes full := h.complete.setTerm.send.noteCommand

theorem admitTerm {p : Nat} (h : s.Shapes full) : (s.admitTerm t p).Shapes full :=
  h.complete.setTerm.writeProfiles.send

/-! ### Loss -/

theorem enterOutage (s : State) : s.enterOutage.Shapes full := by
  obtain ⟨-, hk, hjob⟩ := s.abandonAll_rest
  rw [State.enterOutage_eq]
  refine ⟨fun c hc => ?_, fun _ e => ?_⟩
  · have hmem : c ∈ s.abandonAll.stack := hc
    rw [hk] at hmem
    exact nomatch hmem
  · exact congrArg (Option.all Job.shaped) (hjob e)

theorem offerLoss (h : s.Shapes full) : s.offerLoss.Shapes full := by
  unfold State.offerLoss
  split
  · exact h
  · dsimp only
    split
    · exact enterOutage _
    · exact h.rest

theorem lose {reason : LossReason} (h : s.Shapes full) : (s.lose t reason).Shapes full := by
  unfold State.lose
  dsimp only
  split
  · exact h.complete.send.setTerm.transition.join
  · exact h.complete.send.setTerm.transition.join.offerLoss

/-! ### The engines -/

theorem exhaust (h : s.Shapes full) : (s.exhaust e j).Shapes full := by
  have hsend : ∀ r, (if j.phase.admitted then (s.setTerm j.term r).send (.withdraw j.term)
      else s.setTerm j.term r).Shapes full := fun r => by split <;> exact h.rest
  unfold State.exhaust
  dsimp only
  generalize hx : (if j.phase.admitted = true then _ else _) = x
  have hx : x.Shapes full := hx ▸ hsend _
  split
  · exact hx.transition.setTerm.idle
  · exact hx.transition.idle

theorem returnToFine {power : Nat} (h : s.Shapes full) : (s.returnToFine e j power).st.Shapes full := by
  unfold State.returnToFine
  dsimp only
  split
  · exact h.exhaust
  · exact h.send.search _ rfl fun _ => ⟨rfl, rfl⟩

theorem enterVerify (h : s.Shapes full) (hj : full → j.Settled) : (s.enterVerify e j).Shapes full :=
  h.work fun hf => (Job.shaped_verify (by rfl)).mpr ⟨rfl, rfl, hj hf⟩

theorem beginSettle {f : FrameNo} (h : s.Shapes full) (hj : j.pollInFlight = none) : (s.beginSettle e j f).Shapes full := by
  unfold State.beginSettle
  dsimp only
  split
  · exact h.enterVerify fun _ => ⟨rfl, hj⟩
  · exact h.work fun _ => (Job.shaped_settle (by rfl)).mpr ⟨rfl, rfl, rfl, hj⟩

theorem endConfirm {p fu : Nat} (h : s.Shapes full) (hj : j.pollInFlight = none) : (s.endConfirm e j p fu).Shapes full :=
  h.setTerm.admitTerm.beginSettle hj

/-- A job in SETTLE takes a new ramp (R106 to R108). -/
theorem reramp {rp : Ramp} {f : Option FrameNo} (h : s.Shapes full) (hp : j.phase = .settle) (hj : full → j.shaped = true) :
    (s.setJob e (some { j with ramp := some rp, cmdFrame := f })).Shapes full :=
  h.work fun hf => by
    obtain ⟨hgate, -, hsettled⟩ := (Job.shaped_settle hp).mp (hj hf)
    exact (Job.shaped_settle (by exact hp)).mpr ⟨hgate, rfl, hsettled⟩

theorem rampStep {target step d : Nat} {dir : StepDir} (h : s.Shapes full) (hp : j.phase = .settle)
    (hj : full → j.shaped = true) : (s.rampStep e j target step dir d).Shapes full := by
  unfold State.rampStep
  dsimp only
  split
  · exact h.requestPower.enterVerify fun hf => ((Job.shaped_settle hp).mp (hj hf)).2.2
  · exact h.requestPower.reramp hp hj

theorem rampTick {rp : Ramp} (h : s.Shapes full) (hp : j.phase = .settle) (hj : full → j.shaped = true) :
    (s.rampTick e j rp).Shapes full := by
  unfold State.rampTick
  dsimp only
  split
  · exact h.enterVerify fun hf => ((Job.shaped_settle hp).mp (hj hf)).2.2
  · split
    · exact h.complete.reramp hp hj
    · exact h.complete.rampStep hp hj

theorem settleReport {b : FrameNo} {o : Option Response} (h : s.Shapes full) (hj : full → j.shaped = true) :
    (s.settleReport e j b o).st.Shapes full := by
  unfold State.settleReport
  split
  · exact h
  · split
    · exact h.work hj
    · dsimp only
      split
      · exact h.returnToFine
      · exact h.work hj

theorem handBack {up down : Nat} (h : s.Shapes full) : (s.handBack e t up down).st.Shapes full :=
  h.writeProfiles.send.setTerm.transition.setTerm.idle.trigger.checkClear

theorem judgeVerify {g : Gate} (h : s.Shapes full) : (s.judgeVerify e j g).st.Shapes full := by
  unfold State.judgeVerify State.verifyAccepted
  split
  · dsimp only
    split
    · exact h.setTerm.exhaust
    · exact h.setTerm.handBack
  · exact h.returnToFine

theorem verifyReport {b : FrameNo} {o : Option Response} (h : s.Shapes full) (hp : j.phase = .verify)
    (hj : full → j.shaped = true) : (s.verifyReport e j b o).st.Shapes full := by
  unfold State.verifyReport
  split
  · exact h
  · split
    · exact h
    · dsimp only
      split
      · exact h.judgeVerify
      · exact h.work fun hf => (Job.shaped_verify (by exact hp)).mpr ⟨rfl, ((Job.shaped_verify hp).mp (hj hf)).2⟩

theorem searchAccepted {p fu : Nat} (h : s.Shapes full) (hj : j.pollInFlight = none) (hu : full → j.Unadmitted) :
    (s.searchAccepted e j p fu).Shapes full := by
  unfold State.searchAccepted
  dsimp only
  generalize (if j.phase = .confirm then j.confirmLeft - 1 else s.params.confirmCount - 1) = left
  split
  · exact h.endConfirm hj
  · exact h.search _ rfl hu

theorem searchMissed {g : Gate} {o : Verdict} (h : s.Shapes full) (hu : full → j.Unadmitted) :
    (s.searchMissed e j g o).st.Shapes full := by
  have hphase : ∀ p o, (phaseAfterMiss p o).searching = true := fun p o => by unfold phaseAfterMiss; split <;> rfl
  have hraise : ∀ c, full → (j.raiseLimit c).Unadmitted := fun c hf => by
    unfold Job.raiseLimit
    split <;> exact hu hf
  unfold State.searchMissed
  dsimp only
  split
  · exact h.exhaust
  · exact h.search _ (hphase _ _) (hraise _)

theorem judgeSearch {g : Gate} (h : s.Shapes full) (hj : j.pollInFlight = none) (hu : full → j.Unadmitted) :
    (s.judgeSearch e j g).st.Shapes full := by
  unfold State.judgeSearch
  split
  · exact h.searchAccepted hj hu
  · exact h.searchMissed hu

theorem handOutcome {o : Option Response} (h : s.Shapes full) (hj : full → j.shaped = true) :
    (s.handOutcome e j o).st.Shapes full := by
  unfold State.handOutcome
  dsimp only
  split
  · exact h.work fun hf => Job.shaped_answered (hj hf)
  · split
    · next hp =>
      have hu : full → j.Unadmitted := fun hf => ((Job.shaped_search hp).mp (hj hf)).2
      split
      · exact h.judgeSearch rfl hu
      · exact h.work fun hf => (Job.shaped_search (by exact hp)).mpr ⟨rfl, hu hf⟩
    · exact h.work fun hf => Job.shaped_answered (hj hf)

/-! ### Traffic -/

theorem trackPower {target : Nat} (h : s.Shapes full) : (s.trackPower t target).Shapes full := by
  unfold State.trackPower
  dsimp only
  split
  · exact h
  · split <;> exact h.requestPower

theorem takePair {up down : Nat} {upgraded : Bool} (h : s.Shapes full) : (s.takePair t up down upgraded).Shapes full := by
  have hload : ∀ r, (if upgraded then s.setTerm t r else s).Shapes full := fun r => by split <;> exact h.rest
  unfold State.takePair
  dsimp only
  split
  · exact hload _
  · exact (hload _).writeProfiles.send

theorem sampleBurst {b : FrameNo} {m : Response} (h : s.Shapes full) : (s.sampleBurst t b m).st.Shapes full := by
  unfold State.sampleBurst
  dsimp only
  split
  · exact h.complete.setTerm.lose.trigger
  · exact h.complete.setTerm.takePair.trackPower

theorem trackReport {b : FrameNo} {o : Option Response} (h : s.Shapes full) : (s.trackReport t b o).st.Shapes full := by
  have hmiss : (s.missedTraffic t).st.Shapes full := by
    unfold State.missedTraffic
    dsimp only
    split
    · exact h.setTerm.lose.trigger
    · exact h.setTerm
  unfold State.trackReport
  split
  · split
    · unfold State.acceptedBurst
      dsimp only
      split
      · exact h.setTerm
      · exact h.setTerm.sampleBurst
    · exact hmiss
  · exact hmiss

theorem takeReport {terminal : Byte} {b : FrameNo} {o : Option Response} (h : s.Shapes full) :
    (s.takeReport terminal b o).Shapes full := by
  have hroute : ∀ t, (s.routeReport t b o).st.Shapes full := fun t => by
    unfold State.routeReport
    split
    · exact h.trackReport
    · split
      · exact h
      · split
        · exact h
        · next hj =>
          split
          · exact h.settleReport (h.job hj)
          · next hp => exact h.verifyReport hp (h.job hj)
          · exact h
    · exact h
  unfold State.takeReport
  split
  · exact h
  · split
    · exact h
    · exact (hroute _).close

/-! ### Polls -/

theorem hear (h : s.Shapes full) : (s.hear t).st.Shapes full := by
  unfold State.hear
  split
  · split
    · exact h
    · exact h.rest
  · exact h.transition.setTerm.join.trigger
  · exact h.transition.setTerm.join.trigger
  · exact h

theorem endOutage (h : s.Shapes full) : s.endOutage.st.Shapes full := by
  unfold State.endOutage
  split
  · exact h.setMode
  · exact h

theorem takeOutcome {k : PollTag} {o : Option Response} (h : s.Shapes full) : (s.takeOutcome k o).st.Shapes full := by
  have hfree : (s.setPoll k none).Shapes full := h.rest
  unfold State.takeOutcome State.matchOutcome
  split
  · exact h
  · split
    · unfold State.engineOutcome
      split
      · exact hfree
      · split
        · exact hfree
        · next hj =>
          split
          · exact hfree.handOutcome (h.job hj)
          · exact hfree
    · unfold State.sweepOutcome
      split
      · exact hfree
      · split
        · exact hfree
        · split
          · exact hfree
          · exact hfree.hear.endOutage

theorem takePollResult {tag outcome errors : Byte} {level : BitVec 16} (h : s.Shapes full) :
    (s.takePollResult tag outcome level errors).Shapes full := by
  unfold State.takePollResult
  split
  · split
    · exact h
    · exact h.takeOutcome.close
  · exact h

/-! ### The slots of a mark -/

theorem pollEngine {slot : Nat} (h : s.Shapes full) (hp : ∀ j, s.job e = some j → j.phase.searching = true) :
    (s.pollEngine e slot).Shapes full := by
  unfold State.pollEngine
  split
  · next j k hj _ => exact rest (h.work fun hf => Job.shaped_polled k (hp j hj) (h.job hj hf))
  · exact h

/-- A poll changes no phase. -/
theorem pollEngine_phase (s : State) (e : EngineId) (slot : Nat) (f : EngineId) :
    ((s.pollEngine e slot).job f).map Job.phase = (s.job f).map Job.phase := by
  unfold State.pollEngine
  split
  · next j k hj _ =>
    show ((s.setJob e (some { j with pollInFlight := some k })).job f).map Job.phase = _
    rw [State.setJob_job]
    split
    · next hf => rw [hf, hj]; rfl
    · rfl
  · rfl

theorem pollEngines {es : List EngineId} {slot : Nat} (h : s.Shapes full)
    (hes : ∀ e ∈ es, ((s.job e).map Job.phase).all Phase.searching = true) : (s.pollEngines slot es).Shapes full := by
  induction es generalizing s slot with
  | nil => exact h
  | cons e es ih =>
    refine ih (h.pollEngine fun j hj => ?_) fun f hf => ?_
    · have he := hes e List.mem_cons_self
      rwa [hj] at he
    · rw [pollEngine_phase]
      exact hes f (List.mem_cons_of_mem _ hf)

theorem allocate {slots : Nat} (h : s.Shapes full) : (s.allocate slots).Shapes full := by
  have hpolled : (s.pollEngines 0 (s.pollOrder.take (s.usableSlots slots))).Shapes full := by
    refine h.pollEngines fun e he => ?_
    have hneeds : s.needsPoll e = true :=
      (List.mem_filter.mp ((sortRanked_perm _ _).mem_iff.mp (List.mem_of_mem_take he))).2
    unfold State.needsPoll at hneeds
    cases hj : s.job e with
    | none => rfl
    | some j =>
      rw [hj] at hneeds
      exact (Bool.and_eq_true _ _ ▸ hneeds :).1
  unfold State.allocate
  dsimp only
  split
  · obtain ⟨-, he, -, hk, -⟩ := State.pollSweep_kept_records (s.usableSlots slots -
      (s.pollOrder.take (s.usableSlots slots)).length) (s.pollOrder.take (s.usableSlots slots)).length
      (s.pollEngines 0 (s.pollOrder.take (s.usableSlots slots)))
    exact hpolled.rest hk he
  · exact hpolled

/-! ### A mark -/

theorem countMark {slip : Bool} {n : FrameNo} (h : s.Shapes full) : (s.countMark slip n).Shapes full where
  contexts := h.contexts
  jobs hf e := by
    unfold State.countMark State.job
    rw [mapPlaces_get]
    cases hj : s.engines.get e with
    | none => rfl
    | some j =>
      have hj : j.shaped = true := h.job hj hf
      refine (Job.shaped_countMark _).trans ?_
      split
      · exact Job.shaped_slipped n hj
      · exact hj

theorem expireBackoff (h : s.Shapes full) : (s.expireBackoff t).st.Shapes full := by
  unfold State.expireBackoff
  split
  · exact h.transition.setTerm.join.trigger
  · exact h

theorem tickIfDue (h : s.Shapes full) : (s.tickIfDue e).Shapes full := by
  unfold State.tickIfDue
  split
  · exact h
  · next hj =>
    split
    · next hp _ =>
      split
      · exact h.rampTick hp (h.job hj)
      · exact h
    · exact h

theorem timeoutIfDue {k : PollTag} (h : s.Shapes full) : (s.timeoutIfDue k).st.Shapes full := by
  unfold State.timeoutIfDue
  split
  · exact h.takeOutcome
  · exact h

/-- Work repeated over a list. -/
theorem foldl_andThen {α : Type} {f : State → α → Work} (hf : ∀ {y a}, y.Shapes full → (f y a).st.Shapes full) (l : List α)
    {w : Work} (h : w.st.Shapes full) : (l.foldl (fun w a => w.andThen (fun s => f s a)) w).st.Shapes full :=
  List.foldlRecOn (motive := fun w : Work => w.st.Shapes full) l _ h fun _ hw _ _ => hf hw

theorem foldl {α : Type} {f : State → α → State} (hf : ∀ {y a}, y.Shapes full → (f y a).Shapes full) (l : List α)
    (h : s.Shapes full) : (l.foldl f s).Shapes full :=
  List.foldlRecOn l _ h fun _ hs _ _ => hf hs

theorem freeSendOrder {n m : Nat} (h : s.Shapes full) : (s.freeSendOrder n m).Shapes full := h.rest

theorem markEnds (h : s.Shapes full) : s.markEnds.st.Shapes full := by
  have hlosses : s.expireLosses.Shapes full := h.rest
  have hexpired : s.expireAll.st.Shapes full := by
    unfold State.expireAll
    exact foldl_andThen (f := State.expireBackoff) (fun h => h.expireBackoff) _ hlosses
  have hticked : s.tickAll.st.Shapes full := by
    simp only [State.tickAll, Work.andThen, Work.quiet]
    exact foldl (f := State.tickIfDue) (fun h => h.tickIfDue) allEngines hexpired
  have htimed : s.timeAll.st.Shapes full := by
    unfold State.timeAll
    exact foldl_andThen (f := State.timeoutIfDue) (fun h => h.timeoutIfDue) _ hticked
  rw [State.markEnds_st]
  exact htimed.freeSendOrder

theorem frameMark {n : FrameNo} {slots : Nat} (h : s.Shapes full) : (s.frameMark n slots).Shapes full := by
  have haccept : (s.acceptMark n).Shapes full := h.rest
  exact rest haccept.countMark.markEnds.close.allocate

/-! ### The modem link -/

theorem mlHunt (h : s.Shapes full) : s.mlHunt.Shapes full := h.rest

theorem takeModemFrame {f : WireFrame} (h : s.Shapes full) : (s.takeModemFrame f).Shapes full := by
  unfold State.takeModemFrame
  split
  · exact h.mlHunt
  · unfold State.takeModemCommand
    split
    · exact h.mlHunt.frameMark
    · exact h.mlHunt.takeReport
    · exact h.mlHunt.takeReport
    · exact h.mlHunt.takePollResult
    · exact h.mlHunt

theorem takeModemByte {b : Byte} (h : s.Shapes full) : (s.takeModemByte b).Shapes full := by
  unfold State.takeModemByte
  split
  · exact h.rest
  · split
    · exact h.takeModemFrame
    · exact h.mlHunt

/-! ### The requests -/

theorem changeClass {cls : Nat} (h : s.Shapes full) : (s.changeClass t cls).st.Shapes full := by
  unfold State.changeClass
  split
  · exact h.rest
  · refine ⟨h.contexts, fun hf e => ?_⟩
    unfold State.job Work.trigger
    rw [mapPlaces_get]
    cases hj : s.engines.get e with
    | none => simp [hj]
    | some j =>
      have hshaped : j.shaped = true := h.job hj hf
      simp only [State.setTerm_engines, hj, Option.map_some, Option.all_some]
      split <;> exact hshaped
  · refine ⟨fun c hc => ?_, h.jobs⟩
    obtain ⟨d, hd, rfl⟩ := List.mem_map.mp hc
    have hphase := h.contexts d hd
    split <;> exact hphase
  · exact h.setTerm

theorem amended {p : Provisioned} (h : s.Shapes full) :
    ((s.storeValues t p).andThen (fun s => .quiet (s.clampIfAbove t))).st.Shapes full := by
  have hstored : (s.storeValues t p).st.Shapes full := by
    unfold State.storeValues
    dsimp only
    split
    · exact h.setTerm
    · exact h.setTerm.changeClass
  have hclamped : ((s.storeValues t p).st.clampIfAbove t).Shapes full := by
    unfold State.clampIfAbove
    split
    · exact hstored.clampPower
    · exact hstored
  exact hclamped

theorem takeOut (h : s.Shapes full) : (s.takeOut t).st.Shapes full := by
  obtain ⟨-, hk, he⟩ := s.takeOut_fields t
  refine ⟨fun c hc => h.contexts c (List.mem_filter.mp (hk ▸ hc)).1, fun hf e => ?_⟩
  unfold State.job
  rw [he, mapPlaces_get]
  unfold dropJobOf
  split
  · next j hj =>
    split
    · rfl
    · exact h.job hj hf
  · rfl

theorem restoreNow (h : s.Shapes full) : (s.restoreNow t).st.Shapes full := by
  unfold State.restoreNow
  split
  · exact h.lose.trigger.close
  · exact h.setTerm.transition.join.trigger.close
  · exact h.setTerm.transition.join.trigger.close
  · exact h
  · exact h

theorem onTerminal {n : Nat} {f : TermId → Answer} (h : s.Shapes full) (hf : ∀ t, (f t).st.Shapes full) :
    (s.onTerminal n f).st.Shapes full := by
  unfold State.onTerminal
  split
  · exact h
  · split
    · exact h
    · exact hf _

theorem onProvisioned {n : Nat} {f : TermId → Answer} (h : s.Shapes full) (hf : ∀ t, (f t).st.Shapes full) :
    (s.onProvisioned n f).st.Shapes full := by
  refine h.onTerminal fun t => ?_
  split
  · exact h
  · exact hf t

theorem carry {k : ReqKind} {body : List Byte} (h : s.Shapes full) : (Machine.carry k body s).st.Shapes full := by
  cases k with
  | provision =>
    refine h.onTerminal fun t => ?_
    split
    · exact h
    · split
      · exact h.setTerm.transition.send
      · exact h.setTerm.transition.join.trigger.close
  | amend => exact h.onProvisioned fun t => h.amended.close
  | retire => exact h.onProvisioned fun t => (checkClearIf (w := ⟨_, _⟩) h.takeOut.setTerm.mark).close
  | bar =>
    refine h.onProvisioned fun t => ?_
    split
    · exact h
    · exact (checkClearIf (w := ⟨_, _⟩) h.takeOut.setTerm.mark).close
  | unbar =>
    refine h.onProvisioned fun t => ?_
    split
    · exact h.setTerm.transition.join.trigger.close
    · exact h
  | restoreNow => exact h.onProvisioned fun t => h.restoreNow
  | readTerminal =>
    show (carryReadTerminal body s).st.Shapes full
    unfold carryReadTerminal
    dsimp only
    split
    · exact h
    · split
      · exact h
      · split <;> exact h
  | setLadder =>
    show (carrySetLadder body s).st.Shapes full
    unfold carrySetLadder
    dsimp only
    split
    · exact h.rest
    · exact h
  | release => exact (trigger h.rest).close
  | setSector | hold | readChanges => exact h.rest
  | status | readSector | readQueue | restart => exact h

/-- A frame that completes on the control port does what it does in the buffer, or nothing (R156). -/
theorem enterBuffer {q : ReqFrame} {g : State → State} (h : s.Shapes full) (hg : ∀ {y}, y.Shapes full → (g y).Shapes full) :
    (s.enterBuffer q g).Shapes full := by
  unfold State.enterBuffer
  dsimp only
  split
  · exact h.rest
  · exact hg h.rest

theorem takeRequest {k : ReqKind} {tag : Byte} {body : List Byte} (h : s.Shapes full) :
    (s.takeRequest k tag body).Shapes full := by
  refine h.enterBuffer fun hy => ?_
  split
  · exact hy.rest
  · exact hy.carry.rest

theorem takeControlFrame {f : WireFrame} {good : Bool} (h : s.Shapes full) : (s.takeControlFrame f good).Shapes full := by
  unfold State.takeControlFrame
  split
  · exact h.enterBuffer fun hy => hy.rest
  · split
    · exact h.enterBuffer fun hy => hy.rest
    · exact h.takeRequest

theorem takeControlByte {b : Byte} (h : s.Shapes full) : (s.takeControlByte b).Shapes full := by
  unfold State.takeControlByte
  split
  · exact h.rest
  · exact h.takeControlFrame

/-! ### The step -/

theorem restarted (s : State) (c : StartCause) : (s.restarted c).Shapes full :=
  rest (s := State.reset) ⟨nofun, fun _ => by decide⟩

/-- Every command keeps both laws. -/
theorem exec {c : Instr} (h : s.Shapes full) (hv : Machine.exec c s = .next v) : v.Shapes full := by
  suffices hnext : ∀ {x : State}, x.Shapes full → Host.Outcome.next x = (Host.Outcome.next v : Result) → v.Shapes full by
    cases c with
    | powerOn => exact hnext (restarted s _) hv
    | replySent =>
      refine hnext ?_ hv
      unfold State.replyLeaves
      split
      · exact restarted s _
      · split
        · exact h.rest
        · exact h
    | restartReset =>
      refine hnext ?_ hv
      split
      · exact restarted s _
      · exact h
    | cpLengthDiscard => exact hnext h.takeControlByte hv
    | cpSyncFound bytes => exact hnext (foldl (f := State.takeControlByte) (fun h => h.takeControlByte) bytes h) hv
    | frameDiscardedBufferOccupied | badFrame | badKind => exact hnext h.takeControlFrame hv
    | status | setSector | readSector | setLadder | provision | amend | retire | bar | unbar | restoreNow | readTerminal
    | hold | release | readChanges | readQueue | restart => exact hnext h.takeRequest hv
    | mlLengthDiscard => exact hnext h.takeModemByte hv
    | mlSyncFound bytes => exact hnext (foldl (f := State.takeModemByte) (fun h => h.takeModemByte) bytes h) hv
    | mlFrameDropped => exact hnext h.takeModemFrame hv
    | frame => exact hnext h.mlHunt.frameMark hv
    | burst | miss => exact hnext h.mlHunt.takeReport hv
    | pollResult => exact hnext h.mlHunt.takePollResult hv
    | cpGapDiscard | mlGapDiscard | mlCrcDiscard | modemSilent | lossWindowExpiry | outboundMessageSent
    | commandEffective | ambiguityWindowClose => exact hnext h.rest hv
    | backoffExpiry =>
      refine hnext ?_ hv
      split
      · exact h.expireBackoff.close
      · exact h
    | rampTick => exact hnext h.tickIfDue hv
    | pollTimeout =>
      refine hnext ?_ hv
      split
      · exact h.timeoutIfDue.close
      · exact h
  rintro x hx ⟨⟩
  exact hx

theorem step (h : s.Shapes full) (hv : Machine.step s = .next v) : v.Shapes full := by
  unfold Machine.step at hv
  split at hv
  · cases hv
    exact h.rest
  · exact exec (rest h) hv

end State.Shapes

/-- Settles O60: the law of the contexts on its own, then with the law of the jobs. -/
theorem stepKeepsJobShape : Obligations.StepKeepsJobShape := fun _ _ hv =>
  ⟨fun hc => ((State.Shapes.mk (full := False) hc nofun).step hv).contexts,
    fun hc hj => ((State.Shapes.mk (full := True) hc fun _ => hj).step hv).jobs trivial⟩

end Sys2Proof.Machine
end

section
/-! The arithmetic of the estimator: the smoothing of a sample, and the figures on whole numbers (R22 to R44, R102). -/

namespace Sys2Proof.Machine

/-! ### The smoothing -/

/-- The quotient of the smoothing lies between 0 and the difference, and is the difference at full weight. -/
theorem tdiv_eighths_between {d α : Int} (hd : 0 ≤ d) (h0 : 0 ≤ α) (h8 : α ≤ 8) :
    0 ≤ (d * α).tdiv 8 ∧ (d * α).tdiv 8 ≤ d ∧ (α = 8 → (d * α).tdiv 8 = d) := by
  have hlow : 0 ≤ d * α := mul_nonneg hd h0
  have hhigh : d * α ≤ d * 8 := mul_le_mul_of_nonneg_left h8 hd
  rw [Int.tdiv_eq_ediv_of_nonneg hlow]
  refine ⟨by omega, by omega, ?_⟩
  rintro rfl
  omega

/-- The step of the smoothing goes toward the sample, by one at least and never past it (R35). -/
theorem smoothStep_toward {α F fu : Nat} (h8 : α ≤ 8) :
    (F < fu → 1 ≤ smoothStep α F fu ∧ smoothStep α F fu ≤ (fu : Int) - F) ∧
    (fu < F → (fu : Int) - F ≤ smoothStep α F fu ∧ smoothStep α F fu ≤ -1) ∧
    (F = fu → smoothStep α F fu = 0) ∧ (α = 8 → smoothStep α F fu = (fu : Int) - F) := by
  have hup := fun h : F ≤ fu => tdiv_eighths_between (d := (fu : Int) - F) (α := α) (by omega) (by omega) (by omega)
  have hdown := fun h : fu ≤ F => tdiv_eighths_between (d := (F : Int) - fu) (α := α) (by omega) (by omega) (by omega)
  have hneg : (((fu : Int) - F) * α).tdiv 8 = -(((F : Int) - fu) * α).tdiv 8 := by
    rw [← Int.neg_tdiv, ← neg_mul, neg_sub]
  unfold smoothStep
  dsimp only
  rcases Nat.le_total F fu with h | h
  · obtain ⟨hlow, hhigh, hfull⟩ := hup h
    split <;> omega
  · obtain ⟨hlow, hhigh, hfull⟩ := hdown h
    rw [hneg]
    split <;> omega

/-- Settles O49: the step stays between F and the sample, so the clamp to 0..240 changes nothing. -/
theorem smoothingMovesTowardSample : Obligations.SmoothingMovesTowardSample := by
  intro α F fu _ h8 hF hfu
  obtain ⟨hup, hdown, hsame, hfull⟩ := smoothStep_toward (α := α) (F := F) (fu := fu) h8
  have hstep : smoothStep α F fu = (if Int.tdiv (((fu : Int) - F) * α) 8 = 0 ∧ F < fu then 1
      else if Int.tdiv (((fu : Int) - F) * α) 8 = 0 ∧ fu < F then -1 else Int.tdiv (((fu : Int) - F) * α) 8) := by
    unfold smoothStep
    dsimp only
    generalize (((fu : Int) - F) * α).tdiv 8 = q
    split_ifs <;> omega
  have hvalue : (smooth α F fu : Int) = max 0 (min (F + smoothStep α F fu) 240) := by
    unfold smooth
    rw [clampInt_eq _ _ _ (by decide)]
    omega
  refine ⟨_, _, rfl, hstep, hvalue, ?_, ?_, ?_, ?_, ?_⟩ <;> omega

/-! ### The figures -/

/-- The level of a gate is the mean of its levels, rounded toward minus infinity (R32). -/
theorem Gate.level_bounds (g : Gate) (h : 1 ≤ g.responses) :
    g.level * g.responses ≤ g.levelSum ∧ g.levelSum < (g.level + 1) * g.responses := by
  have hpos : (0 : Int) < g.responses := by omega
  unfold Gate.level
  rw [Int.fdiv_eq_ediv_of_nonneg _ hpos.le]
  exact ⟨Int.ediv_mul_le _ hpos.ne', Int.lt_ediv_add_one_mul_self _ hpos⟩

/-- The downstream fade is the sixteenth of F times ρ rounded to the nearest, at most 255 (R43). -/
theorem downFade_eq (fade ratio : Nat) : downFade fade ratio = min ((fade * ratio + 8) / 16) 255 := by
  unfold downFade
  rw [clampNat_eq _ _ _ (by decide)]
  omega

/-- The backoff frames are at least the least base (R102). -/
theorem le_backoffFrames {base retries : Nat} (h : 8 ≤ base) : 8 ≤ backoffFrames base retries := by
  have hpow : 1 ≤ 2 ^ min (retries - 1) 5 := Nat.one_le_two_pow
  have hmul : base * 1 ≤ base * 2 ^ min (retries - 1) 5 := Nat.mul_le_mul_left base hpow
  unfold backoffFrames
  omega

theorem earlier_iff (a b : FrameNo) : earlier a b = true ↔ 1 ≤ (b - a).toNat ∧ (b - a).toNat ≤ 32767 := by
  simp [earlier]

theorem TermRec.burstPower_none {r : TermRec} (b : FrameNo) (h : r.pendingCmd = none) : r.burstPower b = r.pe := by
  unfold TermRec.burstPower
  rw [h]

theorem TermRec.burstPower_some {r : TermRec} {c : PowerCmd} (b : FrameNo) (h : r.pendingCmd = some c) :
    r.burstPower b = if 1 ≤ (c.effect - b).toNat ∧ (c.effect - b).toNat ≤ 32767 then r.pe else c.value := by
  unfold TermRec.burstPower
  simp only [h, earlier_iff]

/-- Settles O50: each figure is its definition with the clamp read as a maximum and a minimum. -/
theorem fadeFigures : Obligations.FadeFigures := by
  refine ⟨fun ref m p => ?_, Gate.level_bounds, fun fade allowance pmax => ?_, fun fade ratio => ?_,
    fun base retries h8 _ _ => ⟨rfl, le_backoffFrames h8, Nat.min_le_right _ _⟩, fun sd su pc fade fd => ⟨rfl, rfl⟩,
    fun r b => ⟨r.burstPower_none b, fun c => r.burstPower_some b⟩⟩
  · unfold fadeSample
    rw [clampInt_eq _ _ _ (by decide)]
    omega
  · unfold powerTarget
    rw [clampInt_eq _ _ _ (by omega)]
    omega
  · rw [downFade_eq]
    omega

end Sys2Proof.Machine
end

section
/-! The flag of R89 where an event moves nothing the arbiter reads, and the routing of a BURST or a MISS (R147, R151). -/

namespace Sys2Proof.Machine

/-! ### What preempt-pending reads -/

/-- What the preemption step reads of a job: the class, the serial and whether it searches (R84, R85). -/
def Job.standing (j : Job) : Nat × Serial × Bool := (j.cls, j.serial, j.phase.searching)

section Standing

variable {s v : State} (hserial : v.serial = s.serial)
  (hjobs : ∀ e, (v.job e).map Job.standing = (s.job e).map Job.standing)

include hserial in
theorem State.victimBefore_standing {a b a' b' : Job} (ha : a.standing = a'.standing) (hb : b.standing = b'.standing) :
    v.victimBefore a b = s.victimBefore a' b' := by
  simp only [Job.standing, Prod.mk.injEq] at ha hb
  obtain ⟨hac, has, -⟩ := ha
  obtain ⟨hbc, hbs, -⟩ := hb
  unfold State.victimBefore State.serialAge
  rw [hac, has, hbc, hbs, hserial]

include hserial hjobs in
theorem State.victimStep_standing {best best' : Option (EngineId × Job)}
    (hbest : best.map (Prod.map id Job.standing) = best'.map (Prod.map id Job.standing)) (e : EngineId) :
    (v.victimStep best e).map (Prod.map id Job.standing) = (s.victimStep best' e).map (Prod.map id Job.standing) := by
  have he := hjobs e
  unfold State.victimStep
  cases hv : v.job e with
  | none =>
    cases hs : s.job e with
    | none => exact hbest
    | some i => rw [hv, hs] at he; cases he
  | some j =>
    cases hs : s.job e with
    | none => rw [hv, hs] at he; cases he
    | some i =>
      rw [hv, hs] at he
      have hstand : j.standing = i.standing := Option.some.inj he
      have hsearch : j.phase.searching = i.phase.searching := congrArg (fun x => x.2.2) hstand
      dsimp only
      rw [hsearch]
      split
      · cases best with
        | none =>
          cases best' with
          | none => simp [hstand]
          | some b' => cases hbest
        | some b =>
          cases best' with
          | none => cases hbest
          | some b' =>
            have hb := Option.some.inj hbest
            have hbefore := State.victimBefore_standing hserial hstand (congrArg Prod.snd hb :)
            dsimp only
            rw [hbefore]
            split
            · simp [hstand]
            · exact hbest
      · exact hbest

include hserial hjobs in
/-- The victim's engine, and what the arbiter reads of its job, hang on what it reads of the jobs. -/
theorem State.victim_standing :
    v.victim.map (Prod.map id Job.standing) = s.victim.map (Prod.map id Job.standing) := by
  have hfold : ∀ (l : List EngineId) (best best' : Option (EngineId × Job)),
      best.map (Prod.map id Job.standing) = best'.map (Prod.map id Job.standing) →
      (l.foldl v.victimStep best).map (Prod.map id Job.standing) =
        (l.foldl s.victimStep best').map (Prod.map id Job.standing) := fun l => by
    induction l with
    | nil => exact fun _ _ h => h
    | cons e l ih => exact fun _ _ h => ih _ _ (State.victimStep_standing hserial hjobs h e)
  exact hfold allEngines none none rfl

include hserial hjobs in
/-- The condition of preempt-pending hangs on the jobs' standing, the classes, the queue and the stack (R84, R89). -/
theorem State.preemptBlocked_congr (hqueue : v.queue = s.queue) (hstack : v.stack = s.stack)
    (hcls : ∀ u, (v.term u).cls = (s.term u).cls) : v.preemptBlocked = s.preemptBlocked := by
  have hsome : ∀ e, (v.job e).isSome = (s.job e).isSome := fun e => by
    have he := congrArg Option.isSome (hjobs e)
    rwa [Option.isSome_map, Option.isSome_map] at he
  have hvictim : ∀ c, (∃ e j, v.victim = some (e, j) ∧ c < j.cls) ↔ ∃ e j, s.victim = some (e, j) ∧ c < j.cls := fun c => by
    have hkey : ∀ o : Option (EngineId × Job), (∃ e j, o = some (e, j) ∧ c < j.cls) ↔
        ∃ e k, o.map (Prod.map id Job.standing) = some (e, k) ∧ c < k.1 := fun o => by
      rcases o with _ | ⟨e, j⟩
      · simp
      · simp [Job.standing]
    rw [hkey, hkey, State.victim_standing hserial hjobs]
  have hwanted : ∀ x : State, (∃ t rest e j, x.queue = t :: rest ∧ x.victim = some (e, j) ∧ (x.term t).cls < j.cls) ↔
      ∃ t rest, x.queue = t :: rest ∧ ∃ e j, x.victim = some (e, j) ∧ (x.term t).cls < j.cls := fun x =>
    ⟨fun ⟨t, rest, e, j, hq, h⟩ => ⟨t, rest, hq, e, j, h⟩, fun ⟨t, rest, hq, e, j, h⟩ => ⟨t, rest, e, j, hq, h⟩⟩
  rw [Bool.eq_iff_iff, State.preemptBlocked_iff, State.preemptBlocked_iff, hwanted, hwanted]
  simp only [hsome, hqueue, hstack, hcls, hvictim]

end Standing

/-- An event with no trigger that moves nothing the arbiter reads leaves the flag as it is (R80, R89). -/
theorem Work.close_still {s v : State} (hflag : FlagLaw s) (hpending : v.preemptPending = s.preemptPending)
    (hblocked : v.preemptBlocked = s.preemptBlocked) : (Work.quiet v).close = v :=
  State.reexamine_of_flag (hpending.trans (hflag.trans hblocked.symm))

theorem Work.close_setTerm {s : State} {t : TermId} {r : TermRec} (hflag : FlagLaw s) (hc : r.cls = (s.term t).cls) :
    (Work.quiet (s.setTerm t r)).close = s.setTerm t r :=
  Work.close_still hflag rfl (s.preemptBlocked_setTerm hc)

/-- A job rewritten in its engine, its standing kept. -/
theorem State.preemptBlocked_setJob {s : State} {e : EngineId} {j j' : Job} (hj : s.job e = some j)
    (hstand : j'.standing = j.standing) : (s.setJob e (some j')).preemptBlocked = s.preemptBlocked := by
  refine State.preemptBlocked_congr rfl (fun f => ?_) rfl rfl fun _ => rfl
  rw [State.setJob_job]
  split
  · next hf => rw [hf, hj, Option.map_some, hstand]; rfl
  · rfl

theorem Work.close_setJob {s : State} {e : EngineId} {j j' : Job} (hflag : FlagLaw s) (hj : s.job e = some j)
    (hstand : j'.standing = j.standing) :
    (Work.quiet (s.setJob e (some j'))).close = s.setJob e (some j') :=
  Work.close_still hflag rfl (State.preemptBlocked_setJob hj hstand)

/-! ### A response received -/

theorem receivedResponse_eq (level : BitVec 16) (errors : Byte) :
    receivedResponse level errors = ⟨max (-480) (min level.toInt (-80)), min errors.toNat 64⟩ := by
  unfold receivedResponse
  rw [clampInt_eq _ _ _ (by decide), clampNat_zero]

/-- A report's response is accepted, as R21 says it. -/
theorem receivedResponse_accepted (level : BitVec 16) (errors : Byte) (errLimit : Nat) :
    (receivedResponse level errors).accepted errLimit = decide (min errors.toNat 64 ≤ errLimit) := by
  rw [receivedResponse_eq]
  rfl

/-- A frame that is kept comes no earlier than `b`. -/
theorem earlier_any_iff (b : FrameNo) (o : Option FrameNo) :
    o.any (fun a => earlier b a) = true ↔ ∃ a, o = some a ∧ 1 ≤ (a - b).toNat ∧ (a - b).toNat ≤ 32767 := by
  cases o <;> simp [earlier_iff]

/-! ### The routing -/

theorem exec_burst (s : State) (m errors : Byte) (b : FrameNo) (level : BitVec 16) :
    exec (.burst m b level errors) s = .next (s.mlHunt.takeReport m b (some (receivedResponse level errors))) := rfl

theorem exec_miss (s : State) (m : Byte) (b : FrameNo) : exec (.miss m b) s = .next (s.mlHunt.takeReport m b none) := rfl

section Route

variable {s : State} {m : Byte} {b : FrameNo} {o : Option Response} {t : TermId} {e : EngineId} {j : Job}

/-- A report that names no terminal is dropped (R147). -/
theorem State.takeReport_unnamed (h : m.toNat = 0 ∨ 64 < m.toNat) : s.takeReport m b o = s := by
  have hnone : termOf m.toNat = none := by
    unfold termOf
    exact dif_neg (by omega)
  unfold State.takeReport
  rw [hnone]

theorem State.takeReport_unused (hm : m.toNat = numberOf t) (hst : (s.term t).state = .unused) :
    s.takeReport m b o = s := by
  unfold State.takeReport
  rw [hm, termOf_numberOf]
  exact if_pos hst

/-- A report of a provisioned terminal is routed (R151). -/
theorem State.takeReport_routed (hm : m.toNat = numberOf t) (hst : (s.term t).state ≠ .unused) :
    s.takeReport m b o = (s.routeReport t b o).close := by
  unfold State.takeReport
  rw [hm, termOf_numberOf]
  exact if_neg hst

theorem State.routeReport_serving (hst : (s.term t).state = .serving) : s.routeReport t b o = s.trackReport t b o := by
  unfold State.routeReport
  rw [hst]

/-- A report of a terminal that is neither SERVING nor ACTIVE changes nothing (R151). -/
theorem State.routeReport_idle (hs : (s.term t).state ≠ .serving) (ha : (s.term t).state ≠ .active) :
    s.routeReport t b o = .quiet s := by
  unfold State.routeReport
  split
  · next h => exact absurd h hs
  · next h => exact absurd h ha
  · rfl

theorem State.job_of_engineOf (h : s.engineOf t = some e) : ∃ j, s.job e = some j ∧ j.term = t := by
  have hany := List.find?_some h
  cases hj : s.job e with
  | none => simp [hj] at hany
  | some j => exact ⟨j, rfl, by simpa [hj] using hany⟩

/-- A report of a terminal the engines search for changes nothing (R151). -/
theorem State.routeReport_searched (hst : (s.term t).state = .active)
    (hp : ∀ e j, s.job e = some j → j.term = t → j.phase.searching = true) : s.routeReport t b o = .quiet s := by
  unfold State.routeReport
  rw [hst]
  dsimp only
  split
  · rfl
  · next e he =>
    obtain ⟨j, hj, ht⟩ := State.job_of_engineOf he
    have hsearch := hp e j hj ht
    rw [hj]
    dsimp only
    split
    · next h => simp [h, Phase.searching] at hsearch
    · next h => simp [h, Phase.searching] at hsearch
    · rfl

theorem State.routeReport_settle (h : s.holds t e j) (hp : j.phase = .settle) :
    s.routeReport t b o = s.settleReport e j b o := by
  obtain ⟨hst, he, hj⟩ := h
  unfold State.routeReport
  simp only [hst, he, hj, hp]

theorem State.routeReport_verify (h : s.holds t e j) (hp : j.phase = .verify) :
    s.routeReport t b o = s.verifyReport e j b o := by
  obtain ⟨hst, he, hj⟩ := h
  unfold State.routeReport
  simp only [hst, he, hj, hp]

end Route

/-! ### Reports of a SERVING terminal that leave it SERVING -/

section Serving

variable {s : State} {m : Byte} {b : FrameNo} {o : Option Response} {t : TermId}

/-- A report of a SERVING terminal goes to the Tracking Unit (R151). -/
theorem State.takeReport_serving (hm : m.toNat = numberOf t) (hst : (s.term t).state = .serving) :
    s.takeReport m b o = (s.trackReport t b o).close := by
  rw [State.takeReport_routed hm (by simp [hst]), State.routeReport_serving hst]

/-- A rejected BURST and a MISS are one to the Tracking Unit (R65). -/
theorem State.trackReport_missed (h : ∀ x, o = some x → x.accepted s.params.errLimit = false) :
    s.trackReport t b o = s.missedTraffic t := by
  unfold State.trackReport
  split
  · next x => rw [if_neg (by simp [h x rfl])]
  · rfl

theorem State.trackReport_accepted {x : Response} (h : x.accepted s.params.errLimit = true) :
    s.trackReport t b (some x) = s.acceptedBurst t b x := if_pos h

/-- Traffic missed below the miss limit (R65). -/
theorem State.missedTraffic_below (h : min ((s.term t).missCount + 1) 15 < s.params.missLimit) :
    s.missedTraffic t = .quiet (s.setTerm t { s.term t with missCount := min ((s.term t).missCount + 1) 15 }) :=
  if_neg (Nat.not_le.mpr h)

theorem State.takeReport_missed (hflag : FlagLaw s) (hm : m.toNat = numberOf t) (hst : (s.term t).state = .serving)
    (ho : ∀ x, o = some x → x.accepted s.params.errLimit = false)
    (hlimit : min ((s.term t).missCount + 1) 15 < s.params.missLimit) :
    s.takeReport m b o = s.setTerm t { s.term t with missCount := min ((s.term t).missCount + 1) 15 } := by
  rw [State.takeReport_serving hm hst, State.trackReport_missed ho, State.missedTraffic_below hlimit]
  exact Work.close_setTerm hflag rfl

/-- Inside the ambiguity window an accepted BURST gives no sample (R25). -/
theorem State.takeReport_ambiguous {x : Response} (hflag : FlagLaw s) (hm : m.toNat = numberOf t)
    (hst : (s.term t).state = .serving) (hx : x.accepted s.params.errLimit = true)
    (hw : (s.term t).ambigUntil.any (fun a => earlier b a) = true) :
    s.takeReport m b (some x) = s.setTerm t { s.term t with missCount := 0 } := by
  have haccepted : s.acceptedBurst t b x = .quiet (s.setTerm t { s.term t with missCount := 0 }) := by
    unfold State.acceptedBurst
    dsimp only
    rw [State.setTerm_term_self]
    exact if_pos hw
  rw [State.takeReport_serving hm hst, State.trackReport_accepted hx, haccepted]
  exact Work.close_setTerm hflag rfl

end Serving

/-- A report that reaches no unit leaves the state (R147, R151). -/
theorem State.takeReport_unheeded {s : State} {m : Byte} {b : FrameNo} {o : Option Response} (hflag : FlagLaw s)
    (h : m.toNat = 0 ∨ 64 < m.toNat ∨
      ∃ t, m.toNat = numberOf t ∧
        ((s.term t).state ∈ [TermState.unused, .queued, .suspended, .backoff, .held, .barred] ∨
          ((s.term t).state = .active ∧ ∀ e j, s.job e = some j → j.term = t → j.phase.searching = true))) :
    s.takeReport m b o = s := by
  rcases h with h | h | ⟨t, hm, hst⟩
  · exact State.takeReport_unnamed (.inl h)
  · exact State.takeReport_unnamed (.inr h)
  · by_cases hu : (s.term t).state = .unused
    · exact State.takeReport_unused hm hu
    · have hroute : s.routeReport t b o = .quiet s := by
        rcases hst with hst | ⟨hst, hsearch⟩
        · refine State.routeReport_idle ?_ ?_ <;> intro h <;> simp [h] at hst
        · exact State.routeReport_searched hst hsearch
      rw [State.takeReport_routed hm hu, hroute]
      exact State.reexamine_of_flag hflag

/-- Settles O35: the routing of R151, and the Tracking Unit short of a sample. -/
theorem reportsOfLittleEffect : Obligations.ReportsOfLittleEffect := by
  refine ⟨fun s m errors b level hflag h => ?_, fun s m errors b level t hflag hm hst hlimit => ?_,
    fun s m errors b a level t hflag hm hst herr hw hlow hhigh => ?_⟩
  · exact ⟨congrArg _ (State.takeReport_unheeded (s := s.mlHunt) hflag h),
      congrArg _ (State.takeReport_unheeded (s := s.mlHunt) hflag h)⟩
  · refine ⟨congrArg _ (State.takeReport_missed (s := s.mlHunt) (o := none) hflag hm hst nofun hlimit), fun herr => ?_⟩
    refine congrArg _ (State.takeReport_missed (s := s.mlHunt) hflag hm hst ?_ hlimit)
    rintro x ⟨⟩
    rw [receivedResponse_accepted]
    exact decide_eq_false (Nat.not_le.mpr herr)
  · refine congrArg _ (State.takeReport_ambiguous (s := s.mlHunt) hflag hm hst ?_ ?_)
    · rw [receivedResponse_accepted]
      exact decide_eq_true herr
    · exact (earlier_any_iff b _).mpr ⟨a, hw, hlow, hhigh⟩

/-! ### Reports of an admitted terminal -/

section Admitted

variable {s : State} {m : Byte} {b : FrameNo} {o : Option Response} {t : TermId} {e : EngineId} {j : Job}

/-- A report of an admitted terminal goes to its engine (R151). -/
theorem State.takeReport_settle (hm : m.toNat = numberOf t) (h : s.holds t e j) (hp : j.phase = .settle) :
    s.takeReport m b o = (s.settleReport e j b o).close := by
  rw [State.takeReport_routed hm (by simp [h.1]), State.routeReport_settle h hp]

theorem State.takeReport_verify (hm : m.toNat = numberOf t) (h : s.holds t e j) (hp : j.phase = .verify) :
    s.takeReport m b o = (s.verifyReport e j b o).close := by
  rw [State.takeReport_routed hm (by simp [h.1]), State.routeReport_verify h hp]

/-- A report earlier than the admit frame is passed over (R109). -/
theorem State.settleReport_early (h : j.admitFrame.any (fun a => earlier b a) = true) :
    s.settleReport e j b o = .quiet s := if_pos h

/-- An accepted BURST clears the SETTLE miss count (R109). -/
theorem State.settleReport_accepted (h : ¬ j.admitFrame.any (fun a => earlier b a) = true)
    (ho : o.any (fun x => x.accepted s.params.errLimit) = true) :
    s.settleReport e j b o = .quiet (s.setJob e (some { j with settleMiss := 0 })) :=
  (if_neg h).trans (if_pos ho)

/-- A rejected BURST or a MISS below the miss limit (R109). -/
theorem State.settleReport_missed (h : ¬ j.admitFrame.any (fun a => earlier b a) = true)
    (ho : ¬ o.any (fun x => x.accepted s.params.errLimit) = true) (hlimit : min (j.settleMiss + 1) 15 < s.params.missLimit) :
    s.settleReport e j b o = .quiet (s.setJob e (some { j with settleMiss := min (j.settleMiss + 1) 15 })) :=
  ((if_neg h).trans (if_neg ho)).trans (if_neg (Nat.not_le.mpr hlimit))

variable {g : Gate}

/-- A report earlier than the count-from frame is passed over (R30). -/
theorem State.verifyReport_early (hg : j.gate = some g) (h : g.countFrom.any (fun a => earlier b a) = true) :
    s.verifyReport e j b o = .quiet s := by
  unfold State.verifyReport
  rw [hg]
  exact if_pos h

/-- A report counted short of the depth (R30). -/
theorem State.verifyReport_counted (hg : j.gate = some g) (h : ¬ g.countFrom.any (fun a => earlier b a) = true)
    (hdepth : g.counted + 1 < g.depth) :
    s.verifyReport e j b o = .quiet (s.setJob e (some { j with gate := some (g.count o) })) := by
  obtain ⟨hd, -, -, hc⟩ := g.count_fields o
  unfold State.verifyReport
  rw [hg]
  refine (if_neg h).trans (if_neg ?_)
  simp only [Gate.full, hd, hc, decide_eq_true_eq]
  omega

/-- A report that completes the gate has it judged (R30, R112). -/
theorem State.verifyReport_full (hg : j.gate = some g) (h : ¬ g.countFrom.any (fun a => earlier b a) = true)
    (hdepth : (g.count o).depth ≤ (g.count o).counted) :
    s.verifyReport e j b o = s.judgeVerify e j (g.count o) := by
  unfold State.verifyReport
  rw [hg]
  exact (if_neg h).trans (if_pos (decide_eq_true hdepth))

end Admitted

/-- Settles O39: the three outcomes of a report in SETTLE, and the two of one short of the depth in VERIFY. -/
theorem admittedReportsCount : Obligations.AdmittedReportsCount := by
  refine ⟨fun s m errors b a level t e j hflag hm hh hp ha => ?_, fun s m errors b c level t e j g hflag hm hh hp hg hc => ?_⟩
  · have hreport : ∀ o, s.mlHunt.takeReport m b o = (s.mlHunt.settleReport e j b o).close := fun o =>
      State.takeReport_settle hm hh hp
    have hadmit : j.admitFrame.any (fun a => earlier b a) = true ↔ 1 ≤ (a - b).toNat ∧ (a - b).toNat ≤ 32767 := by
      simp [ha, earlier_iff]
    have hjob : ∀ n, (Work.quiet (s.mlHunt.setJob e (some { j with settleMiss := n }))).close =
        s.mlHunt.setJob e (some { j with settleMiss := n }) := fun n => Work.close_setJob (s := s.mlHunt) hflag hh.2.2 rfl
    rw [exec_burst, exec_miss]
    simp only [hreport]
    refine ⟨fun hearly => ?_, fun hlate => ⟨fun herr => ?_, fun hlimit => ⟨?_, fun herr => ?_⟩⟩⟩
    · rw [State.settleReport_early (hadmit.mpr hearly), State.settleReport_early (hadmit.mpr hearly)]
      exact and_self_iff.mpr (congrArg _ (State.reexamine_of_flag (s := s.mlHunt) hflag))
    · rw [State.settleReport_accepted (mt hadmit.mp hlate) (by simpa [receivedResponse_accepted] using herr), hjob]
      rfl
    · rw [State.settleReport_missed (s := s.mlHunt) (o := none) (mt hadmit.mp hlate) nofun hlimit, hjob]
      rfl
    · rw [State.settleReport_missed (s := s.mlHunt) (o := some _) (mt hadmit.mp hlate) ?_ hlimit, hjob]
      · rfl
      · simpa [receivedResponse_accepted] using herr
  · have hreport : ∀ o, s.mlHunt.takeReport m b o = (s.mlHunt.verifyReport e j b o).close := fun o =>
      State.takeReport_verify hm hh hp
    have hfrom : g.countFrom.any (fun a => earlier b a) = true ↔ 1 ≤ (c - b).toNat ∧ (c - b).toNat ≤ 32767 := by
      simp [hc, earlier_iff]
    have hjob : ∀ g', (Work.quiet (s.mlHunt.setJob e (some { j with gate := some g' }))).close =
        s.mlHunt.setJob e (some { j with gate := some g' }) := fun g' => Work.close_setJob (s := s.mlHunt) hflag hh.2.2 rfl
    rw [exec_burst, exec_miss]
    simp only [hreport]
    refine ⟨fun hearly => ?_, fun hlate hdepth => ?_⟩
    · rw [State.verifyReport_early hg (hfrom.mpr hearly), State.verifyReport_early hg (hfrom.mpr hearly)]
      exact and_self_iff.mpr (congrArg _ (State.reexamine_of_flag (s := s.mlHunt) hflag))
    · rw [State.verifyReport_counted hg (mt hfrom.mp hlate) hdepth, State.verifyReport_counted hg (mt hfrom.mp hlate) hdepth,
        hjob, hjob, receivedResponse_eq]
      exact ⟨rfl, rfl⟩

end Sys2Proof.Machine
end

section
/-! An accepted BURST of a SERVING terminal that gives a sample: profiles and the tracking move (R24, R50, R63, R64). -/

namespace Sys2Proof.Machine

/-! ### The completion of a pending command -/

/-- The completion writes Pe and the pending command, and nothing else of a record (R57). -/
theorem TermRec.completed_eq (r : TermRec) (n : FrameNo) :
    r.completed n = { r with pe := (r.completed n).pe, pendingCmd := (r.completed n).pendingCmd } := by
  unfold TermRec.completed TermRec.effective
  split <;> [split; skip] <;> rfl

@[simp] theorem TermRec.completed_pc (r : TermRec) (n : FrameNo) : (r.completed n).pc = r.pc := by
  rw [TermRec.completed_eq]

@[simp] theorem TermRec.completed_pmax (r : TermRec) (n : FrameNo) : (r.completed n).pmax = r.pmax := by
  rw [TermRec.completed_eq]

/-- The completion does not touch the miss count. -/
theorem TermRec.completed_misses (r : TermRec) (k : Nat) (n : FrameNo) :
    ({ r with missCount := k } : TermRec).completed n = { r.completed n with missCount := k } := by
  have hat : ({ r with missCount := k } : TermRec).atEffect n = r.atEffect n := rfl
  have heffective : ({ r with missCount := k } : TermRec).effective = { r.effective with missCount := k } := by
    unfold TermRec.effective
    cases hp : r.pendingCmd <;> simp [hp]
  unfold TermRec.completed
  rw [hat, heffective]
  split <;> rfl

/-- After the completion no pending command is due at the frame. -/
theorem TermRec.completed_notDue (r : TermRec) (n : FrameNo) : (r.completed n).atEffect n = false := by
  unfold TermRec.completed
  split
  · next h =>
    unfold TermRec.atEffect at h ⊢
    unfold TermRec.effective
    cases hc : r.pendingCmd with
    | none => simp [hc]
    | some c => rfl
  · next h => simpa using h

/-- A record whose pending command is not due is complete. -/
theorem TermRec.completed_of_pending {r r' : TermRec} {n : FrameNo} (h : r'.pendingCmd = (r.completed n).pendingCmd) :
    r'.completed n = r' := by
  have hdue : r'.atEffect n = false := by
    unfold TermRec.atEffect
    rw [h]
    exact r.completed_notDue n
  unfold TermRec.completed
  rw [hdue]
  rfl

/-! ### The moves of a served terminal -/

/-- A state in which an event has written one record, marked its terminal or not, sent messages and told the engines. -/
def State.served (s : State) (t : TermId) (r : TermRec) (remark : Bool) (sent : List OutMsg)
    (es : Vector (Option Job) 4) : State :=
  { s with
    terms := (s.setTerm t r).terms, marks := if remark then (s.mark t).marks else s.marks, outbox := s.outbox ++ sent
    engines := es }

section Moves

variable (s : State) (t : TermId)

theorem State.served_term (u : TermId) (r : TermRec) (remark : Bool) (sent : List OutMsg) (es : Vector (Option Job) 4) :
    (s.served t r remark sent es).term u = if u = t then r else s.term u := State.setTerm_term ..

theorem State.served_marked (u : TermId) (r : TermRec) (remark : Bool) (sent : List OutMsg) (es : Vector (Option Job) 4) :
    (s.served t r remark sent es).marked u = (s.marked u || decide (u = t ∧ remark = true)) := by
  cases remark with
  | false =>
    show s.marked u = _
    simp
  | true =>
    refine (State.mark_marked s t u).trans ?_
    by_cases hu : u = t <;> simp [hu]

/-- The pair of a serving verdict taken (R50): the hold-off of an upgrade, the profiles, and PROFILE where they differ. -/
theorem State.takePair_eq (up down : Nat) (upgraded : Bool) :
    s.takePair t up down upgraded =
      s.served t
        { s.term t with
          up := up, down := down, holdOff := if upgraded then s.params.holdOffLoad else (s.term t).holdOff }
        (decide ¬ ((s.term t).up = up ∧ (s.term t).down = down))
        (if (s.term t).up = up ∧ (s.term t).down = down then [] else [.profile t up down]) s.engines := by
  have hload : (if upgraded then s.setTerm t { s.term t with holdOff := s.params.holdOffLoad } else s) =
      s.setTerm t { s.term t with holdOff := if upgraded then s.params.holdOffLoad else (s.term t).holdOff } := by
    cases upgraded
    · exact (s.setTerm_self t).symm
    · rfl
  unfold State.takePair State.writeProfiles
  dsimp only
  rw [hload, State.setTerm_term_self, State.setTerm_setTerm]
  by_cases h : (s.term t).up = up ∧ (s.term t).down = down
  · obtain ⟨rfl, rfl⟩ := h
    simp [State.served, State.setTerm]
  · simp only [h, if_false, not_false_eq_true, decide_true]
    rfl

/-- The tracking move asks for a power outside the deadband only (R64). -/
theorem State.trackPower_eq (target : Nat) :
    s.trackPower t target =
      if (target - (s.term t).pc) + ((s.term t).pc - target) ≤ s.params.deadband then s
      else s.requestPower t (if (s.term t).pc < target then (s.term t).pc + min (target - (s.term t).pc) s.params.trackStep
        else (s.term t).pc - min ((s.term t).pc - target) s.params.trackStep) := by
  unfold State.trackPower
  dsimp only
  split
  · rfl
  · split <;> rfl

/-- A granted request, whole (R56, R58). -/
theorem State.requestPower_issued {p : Nat} (h : ((s.term t).completed s.lastFrame).grants p) :
    s.requestPower t p =
      ((s.setTerm t (((s.term t).completed s.lastFrame).issued (((s.term t).completed s.lastFrame).issueValue p)
        s.effectFrame)).send (.power t (((s.term t).completed s.lastFrame).issueValue p) s.effectFrame)).noteCommand t
          s.effectFrame := by
  obtain ⟨hnone, hmoves⟩ := h
  have hframe : (s.complete t).effectFrame = s.effectFrame := rfl
  unfold State.requestPower
  simp only [State.complete_term_self, hnone, hframe, hmoves, Option.isSome_none, Bool.false_eq_true, if_false]
  unfold State.complete
  rw [State.setTerm_setTerm]

/-- No engine is told of a command where none holds the terminal. -/
theorem State.noteCommand_unheld {f : FrameNo} (h : s.engineOf t = none) : s.noteCommand t f = s := by
  unfold State.noteCommand
  rw [h]

end Moves

/-- The tracking step from the power `pc` toward the target (R64). -/
def trackMove (pc target step : Nat) : Nat :=
  if pc < target then pc + min (target - pc) step else pc - min (pc - target) step

theorem trackMove_moves {pc target step : Nat} (hstep : 1 ≤ step) (hne : 0 < (target - pc) + (pc - target)) :
    trackMove pc target step ≠ pc := by
  unfold trackMove
  split <;> omega

theorem trackMove_le {pc target step pmax : Nat} (hpc : pc ≤ pmax) (ht : target ≤ pmax) : trackMove pc target step ≤ pmax := by
  unfold trackMove
  split <;> omega

theorem powerTarget_le (fade allowance pmax : Nat) : powerTarget fade allowance pmax ≤ pmax := by
  unfold powerTarget
  rw [clampInt_eq _ _ _ (by omega)]
  omega

section Track

variable {s : State} {t : TermId} {target : Nat}

/-- No tracking move where a command is pending or the target is near (R58, R64). -/
theorem State.trackPower_still (hcomplete : (s.term t).completed s.lastFrame = s.term t)
    (h : (s.term t).pendingCmd.isSome = true ∨
      (target - (s.term t).pc) + ((s.term t).pc - target) ≤ s.params.deadband) : s.trackPower t target = s := by
  rw [State.trackPower_eq]
  split
  · rfl
  · next hfar =>
    have hpending := h.resolve_right hfar
    rw [State.requestPower_refused, State.complete, hcomplete, State.setTerm_self]
    rw [hcomplete]
    rintro ⟨hnone, -⟩
    simp [hnone] at hpending

/-- The tracking move of a terminal with no command pending (R56, R64). -/
theorem State.trackPower_moves (hcomplete : (s.term t).completed s.lastFrame = s.term t)
    (hnone : (s.term t).pendingCmd = none) (hfar : s.params.deadband < (target - (s.term t).pc) + ((s.term t).pc - target))
    (hstep : 1 ≤ s.params.trackStep) (hpc : (s.term t).pc ≤ (s.term t).pmax) (ht : target ≤ (s.term t).pmax) :
    s.trackPower t target =
      ((s.setTerm t ((s.term t).issued (trackMove (s.term t).pc target s.params.trackStep) s.effectFrame)).send
        (.power t (trackMove (s.term t).pc target s.params.trackStep) s.effectFrame)).noteCommand t s.effectFrame := by
  have hvalue : (s.term t).issueValue (trackMove (s.term t).pc target s.params.trackStep) =
      trackMove (s.term t).pc target s.params.trackStep := by
    unfold TermRec.issueValue
    rw [clampNat_zero, Nat.min_eq_left (trackMove_le hpc ht)]
  have hgrants : ((s.term t).completed s.lastFrame).grants (trackMove (s.term t).pc target s.params.trackStep) := by
    rw [hcomplete]
    refine ⟨hnone, ?_⟩
    rw [hvalue]
    exact trackMove_moves hstep (by omega)
  rw [State.trackPower_eq, if_neg (Nat.not_le.mpr hfar)]
  refine (State.requestPower_issued s t hgrants).trans ?_
  rw [hcomplete, hvalue]

end Track

/-! ### The sampled burst -/

section Sampled

variable {s : State} {t : TermId} {b : FrameNo} {x : Response} {up down : Nat} {upgraded : Bool} {F : Nat}

/-- The record a sample leaves before the tracking move (R50, R63). -/
def TermRec.sampled (r : TermRec) (F up down : Nat) (upgraded : Bool) (load : Nat) : TermRec :=
  { r with fade := F, missCount := 0, up := up, down := down, holdOff := if upgraded then load else r.holdOff }

/-- An accepted BURST whose verdict is a pair of profiles (R63): F, the pair, then the tracking move. -/
theorem State.acceptedBurst_pair (hw : ¬ (s.term t).ambigUntil.any (fun a => earlier b a) = true)
    (hF : F = smooth s.params.alpha ((s.term t).completed s.lastFrame).fade
      (fadeSample ((s.term t).completed s.lastFrame).refLevel (((s.term t).completed s.lastFrame).burstPower b) x.level))
    (hv : servingVerdict s.ladder { (s.term t).completed s.lastFrame with fade := F }
      (marginDown ((s.term t).completed s.lastFrame).sd (downFade F s.params.ratio))
      (marginUp ((s.term t).completed s.lastFrame).su ((s.term t).completed s.lastFrame).pc F) = .pair up down upgraded) :
    s.acceptedBurst t b x = .quiet ((s.served t
        (((s.term t).completed s.lastFrame).sampled F up down upgraded s.params.holdOffLoad)
        (decide ¬ (((s.term t).completed s.lastFrame).up = up ∧ ((s.term t).completed s.lastFrame).down = down))
        (if ((s.term t).completed s.lastFrame).up = up ∧ ((s.term t).completed s.lastFrame).down = down then []
          else [.profile t up down]) s.engines).trackPower t
      (powerTarget F s.params.allowance ((s.term t).completed s.lastFrame).pmax)) := by
  unfold State.acceptedBurst
  dsimp only
  rw [State.setTerm_term_self, if_neg hw]
  unfold State.sampleBurst
  dsimp only
  rw [State.complete_term_self, State.setTerm_term_self, State.setTerm_lastFrame, TermRec.completed_misses]
  generalize hr : (s.term t).completed s.lastFrame = r at hF hv ⊢
  have hfade : smooth s.params.alpha r.fade (fadeSample r.refLevel
      (({ r with missCount := 0 } : TermRec).burstPower b) x.level) = F := hF.symm
  have hwrite : ((s.setTerm t { s.term t with missCount := 0 }).complete t).setTerm t
      { r with missCount := 0, fade := F } = s.setTerm t { r with missCount := 0, fade := F } := by
    unfold State.complete
    rw [State.setTerm_setTerm, State.setTerm_setTerm]
  simp only [State.complete_params, State.setTerm_params, State.setTerm_ladder, hfade, hwrite]
  have hverdict : servingVerdict s.ladder { r with missCount := 0, fade := F }
      (marginDown r.sd (downFade F s.params.ratio)) (marginUp r.su r.pc F) = .pair up down upgraded := hv
  rw [hverdict]
  dsimp only
  rw [State.takePair_eq, State.setTerm_term_self]
  unfold State.served
  have hset := fun r' => congrArg State.terms (s.setTerm_setTerm t { r with missCount := 0, fade := F } r')
  dsimp only [State.setTerm_params, State.setTerm_outbox, State.setTerm_marks, State.setTerm_engines]
  rw [hset]
  rfl

/-- What an accepted BURST with a sample leaves (R63, R64): one record, at most a mark, PROFILE and then POWER, and no word
to an engine where none holds the terminal. -/
theorem State.acceptedBurst_served {r : TermRec} {target : Nat} (hw : ¬ (s.term t).ambigUntil.any (fun a => earlier b a) = true)
    (hr : r = (s.term t).completed s.lastFrame)
    (hF : F = smooth s.params.alpha r.fade (fadeSample r.refLevel (r.burstPower b) x.level))
    (hv : servingVerdict s.ladder { r with fade := F } (marginDown r.sd (downFade F s.params.ratio))
      (marginUp r.su r.pc F) = .pair up down upgraded)
    (ht : target = powerTarget F s.params.allowance r.pmax) (hpc : r.pc ≤ r.pmax) (hstep : 1 ≤ s.params.trackStep) :
    ∃ r' sent es, s.acceptedBurst t b x = .quiet (s.served t r' (decide ¬ (r.up = up ∧ r.down = down))
        ((if r.up = up ∧ r.down = down then [] else [.profile t up down]) ++ sent) es) ∧
      (r.pendingCmd.isSome = true ∨ (target - r.pc) + (r.pc - target) ≤ s.params.deadband →
        r' = r.sampled F up down upgraded s.params.holdOffLoad ∧ sent = []) ∧
      (r.pendingCmd = none → s.params.deadband < (target - r.pc) + (r.pc - target) →
        r' = (r.sampled F up down upgraded s.params.holdOffLoad).issued (trackMove r.pc target s.params.trackStep)
          s.effectFrame ∧
        sent = [.power t (trackMove r.pc target s.params.trackStep) s.effectFrame]) ∧
      (s.engineOf t = none → es = s.engines) := by
  subst hr
  have hburst := State.acceptedBurst_pair hw hF hv
  rw [← ht] at hburst
  generalize hr : (s.term t).completed s.lastFrame = r at hburst ht hpc
  generalize hmsgs : (if r.up = up ∧ r.down = down then [] else [OutMsg.profile t up down]) = msgs at hburst
  generalize hremark : decide (¬ (r.up = up ∧ r.down = down)) = remark at hburst
  generalize hr₁ : r.sampled F up down upgraded s.params.holdOffLoad = r₁ at hburst
  have hterm : (s.served t r₁ remark msgs s.engines).term t = r₁ := (s.served_term t t r₁ remark msgs _).trans (if_pos rfl)
  have hcomplete : ((s.served t r₁ remark msgs s.engines).term t).completed (s.served t r₁ remark msgs s.engines).lastFrame =
      (s.served t r₁ remark msgs s.engines).term t := by
    rw [hterm]
    exact TermRec.completed_of_pending (r := s.term t) (by rw [← hr₁, ← hr]; rfl)
  by_cases hstill : r.pendingCmd.isSome = true ∨ (target - r.pc) + (r.pc - target) ≤ s.params.deadband
  · refine ⟨r₁, [], s.engines, ?_, fun _ => ⟨rfl, rfl⟩, fun hnone hfar => ?_, fun _ => rfl⟩
    · rw [hburst, List.append_nil, State.trackPower_still hcomplete]
      rw [hterm, ← hr₁]
      exact hstill
    · rcases hstill with h | h
      · simp [hnone] at h
      · exact absurd hfar (Nat.not_lt.mpr h)
  · have hnone : r.pendingCmd = none := by
      have h := fun h => hstill (.inl h)
      simpa using h
    have hfar : s.params.deadband < (target - r.pc) + (r.pc - target) := Nat.not_le.mp fun h => hstill (.inr h)
    have hpmax : r₁.pmax = r.pmax := by rw [← hr₁]; rfl
    have hpower : r₁.pc = r.pc := by rw [← hr₁]; rfl
    have hmoves := State.trackPower_moves (target := target) hcomplete (by rw [hterm, ← hr₁]; exact hnone)
      (by rw [hterm, hpower]; exact hfar) hstep (by rw [hterm, hpower, hpmax]; exact hpc)
      (by rw [hterm, hpmax, ht]; exact powerTarget_le _ _ _)
    rw [hterm, hpower] at hmoves
    rw [hburst, hmoves]
    have hset := congrArg State.terms (s.setTerm_setTerm t r₁ (r₁.issued (trackMove r.pc target s.params.trackStep)
      s.effectFrame))
    generalize hy : State.send _ _ = y
    have hengines : y.engines = s.engines := by rw [← hy]; rfl
    refine ⟨_, _, (y.noteCommand t s.effectFrame).engines, ?_, fun h => absurd h hstill, fun _ _ => ⟨rfl, rfl⟩, fun hfree => ?_⟩
    · refine congrArg Work.quiet ((y.noteCommand_eq t s.effectFrame).trans ?_)
      unfold State.served
      rw [← List.append_assoc, ← hset, ← hy]
      rfl
    · rw [State.noteCommand_unheld, hengines]
      rw [← hy]
      exact hfree

end Sampled

/-- Settles O38: one record, PROFILE before POWER, and the re-examined flag are all that differs. -/
theorem sampledBurst : Obligations.SampledBurst := by
  intro s m errors b level t up down upgraded r r₁ F target move f hpower hstep hm hst herr hw hr hF hv hr₁ htarget hmove hf
  have hambig : ¬ (s.term t).ambigUntil.any (fun a => earlier b a) = true := fun h => by
    obtain ⟨a, ha, hearly⟩ := (earlier_any_iff b _).mp h
    exact hw a ha hearly
  have hpc : r.pc ≤ r.pmax := by
    obtain ⟨-, hle, -⟩ := hpower t
    rw [hr, TermRec.completed_pc, TermRec.completed_pmax]
    exact hle
  have hlevel : (receivedResponse level errors).level = max (-480) (min level.toInt (-80)) := by rw [receivedResponse_eq]
  obtain ⟨r', sent, es, hburst, hstill, hmoves, hes⟩ := State.acceptedBurst_served (s := s.mlHunt) (x := receivedResponse level errors)
    hambig hr (by rw [hlevel]; exact hF) hv htarget hpc hstep
  have hreport : s.mlHunt.takeReport m b (some (receivedResponse level errors)) = (s.mlHunt.served t r'
      (decide ¬ (r.up = up ∧ r.down = down)) ((if r.up = up ∧ r.down = down then [] else [.profile t up down]) ++ sent)
      es).reexamine := by
    rw [State.takeReport_serving (s := s.mlHunt) hm hst, State.trackReport_accepted (s := s.mlHunt), hburst]
    · rfl
    · rw [receivedResponse_accepted]
      exact decide_eq_true herr
  have hterm := fun u => s.mlHunt.served_term t u r' (decide ¬ (r.up = up ∧ r.down = down))
    ((if r.up = up ∧ r.down = down then [] else [.profile t up down]) ++ sent) es
  have hmarked := fun u => s.mlHunt.served_marked t u r' (decide ¬ (r.up = up ∧ r.down = down))
    ((if r.up = up ∧ r.down = down then [] else [.profile t up down]) ++ sent) es
  have hown := (hterm t).trans (if_pos rfl)
  have hmove : move = trackMove r.pc target s.params.trackStep := hmove
  refine ⟨_, (exec_burst s m errors b level).trans (congrArg _ hreport), fun u hu => (hterm u).trans (if_neg hu), fun h => ?_,
    fun hnone hfar => ?_, fun u => (hmarked u).trans ?_, hes, rfl, rfl, rfl, rfl, rfl, rfl, rfl, rfl,
    ⟨rfl, rfl, rfl, rfl, rfl, rfl, rfl, rfl, rfl, rfl⟩, ⟨rfl, rfl, rfl⟩, rfl⟩
  · obtain ⟨hrec, hsent⟩ := hstill h
    refine ⟨hown.trans (hrec.trans hr₁.symm), ?_⟩
    show s.outbox ++ (_ ++ sent) = _
    rw [hsent, List.append_nil]
  · obtain ⟨hrec, hsent⟩ := hmoves hnone hfar
    subst hmove hf hr₁
    refine ⟨hown.trans hrec, ?_⟩
    show s.outbox ++ (_ ++ sent) = _
    rw [hsent, ← List.append_assoc]
    rfl
  · simp

end Sys2Proof.Machine
end

section
/-! An ACCEPTED VERIFY gate that hands its terminal back to SERVING (R31, R33, R53, R112, R135). -/

namespace Sys2Proof.Machine

/-! ### The judgement of a gate -/

theorem Gate.verdict_accepted {g : Gate} {errLimit : Nat} (hr : 1 ≤ g.responses) (he : g.errorTotal ≤ g.depth * errLimit) :
    g.verdict errLimit = .accepted := by
  unfold Gate.verdict
  rw [if_neg (by omega), if_pos he]

/-- Neither direction below floor, as the estimator tests it (R47). -/
theorem belowFloor_neither {l : Ladder} {md mu : Int} {pc pmax : Nat} (hd : ¬ md < l.at 0)
    (hu : ¬ (mu < l.at 0 ∧ pc = pmax)) : (belowFloorDown l md || belowFloorUp l mu pc pmax) = false := by
  simp only [belowFloorDown, belowFloorUp, Bool.or_eq_false_iff, Bool.and_eq_false_iff, decide_eq_false_iff_not]
  tauto

/-! ### The hand-back -/

section HandBack

variable (s : State) (e : EngineId) (t : TermId) (up down : Nat)

/-- The record a hand-back leaves (R53). -/
def TermRec.handedBack (r : TermRec) (up down load : Nat) : TermRec :=
  { r with
    state := .serving, up := up, down := down, holdOff := load, missCount := 0, lossPower := none, lostAt := none
    lossReason := none }

theorem State.writeProfiles_eq :
    s.writeProfiles t up down =
      s.served t { s.term t with up := up, down := down } (decide ¬ ((s.term t).up = up ∧ (s.term t).down = down)) []
        s.engines := by
  unfold State.writeProfiles State.served
  dsimp only
  rw [List.append_nil]
  by_cases h : (s.term t).up = up ∧ (s.term t).down = down
  · simp only [h, and_self, if_true, not_true_eq_false, decide_false, Bool.false_eq_true, if_false]
    rfl
  · simp only [h, if_false, not_false_eq_true, decide_true, if_true]
    rfl

section Served

variable (r r' : TermRec) (remark : Bool) (sent : List OutMsg) (es : Vector (Option Job) 4)

theorem State.served_send (m : OutMsg) : (s.served t r remark sent es).send m = s.served t r remark (sent ++ [m]) es := by
  unfold State.served State.send
  dsimp only
  rw [List.append_assoc]

theorem State.served_setTerm : (s.served t r remark sent es).setTerm t r' = s.served t r' remark sent es := by
  have hset := congrArg State.terms (s.setTerm_setTerm t r r')
  unfold State.served
  rw [← hset]
  rfl

/-- A terminal marked already is marked no further. -/
theorem State.served_mark : (s.served t r remark sent es).mark t = s.served t r true sent es := by
  have hmark : (if remark then (s.mark t).marks else s.marks).set t.val true t.isLt = (s.mark t).marks := by
    cases remark
    · rfl
    · exact set_set_place ..
  exact congrArg (fun ms => ({ s.served t r true sent es with marks := ms } : State)) hmark

theorem State.served_transition {a b : TermState} (h : r.state = a) (hb : a ≠ .backoff) :
    (s.served t r remark sent es).transition t a b = s.served t { r with state := b } true sent es := by
  have hterm : (s.served t r remark sent es).term t = r := (s.served_term t t r remark sent es).trans (if_pos rfl)
  rw [State.transition_of_state _ _ _ _ (by rw [hterm, h]), State.served_setTerm, State.served_mark, hterm, if_neg hb]

theorem State.setTerm_served : (s.setTerm t r).served t r' remark sent es = s.served t r' remark sent es := by
  have hset := congrArg State.terms (s.setTerm_setTerm t r r')
  unfold State.served
  rw [hset]
  rfl

end Served

/-- A hand-back as one write of the record, the mark, PROFILE and the engine (R53), then the check for CLEAR. -/
theorem State.handBack_eq (h : (s.term t).state = .active) :
    s.handBack e t up down =
      (Work.trigger (s.served t ((s.term t).handedBack up down s.params.holdOffLoad) true [.profile t up down]
        (s.setJob e none).engines)).checkClear := by
  have hterm := fun r remark sent => (s.served_term t t r remark sent s.engines).trans (if_pos rfl)
  unfold State.handBack
  dsimp only
  rw [State.writeProfiles_eq, State.served_send, hterm, State.served_setTerm, State.served_transition (a := .active) (h := by exact h) (hb := by decide),
    hterm, State.served_setTerm]
  rfl

end HandBack

/-! ### The terminal out of its engine -/

/-- A terminal that an engine alone holds is in no collection once the engine is idle (R6). -/
theorem State.absent_of_idle {s : State} {e : EngineId} {t : TermId} (hc : CollectionsLaw s) (he : s.worker e = some t) :
    (s.setJob e none).Absent t := by
  have hplaced := (collectionsLaw_iff s).mp hc
  have hst := hplaced.active he
  refine ⟨fun hq => ?_, fun f hf => ?_, fun hk => ?_⟩
  · cases (hplaced.queued hq).symm.trans hst
  · rw [State.setJob_worker] at hf
    split at hf
    · cases hf
    · next hne => exact hne ((s.nodup_workers.mp hplaced.workers.1) f e t hf he)
  · cases (hplaced.suspended hk).symm.trans hst

theorem State.Absent.congr {s v : State} {t : TermId} (h : s.Absent t) (hq : v.queue = s.queue) (hk : v.stack = s.stack)
    (he : v.engines = s.engines) : v.Absent t := by
  obtain ⟨hqueue, hworker, hstack⟩ := h
  refine ⟨hq ▸ hqueue, fun e => ?_, ?_⟩
  · rw [State.worker_congr he]
    exact hworker e
  · unfold State.onStack
    rwa [hk]

/-- A terminal in no collection keeps its record to the end of the event, and no engine takes it up. -/
theorem Work.close_absent {w : Work} {t : TermId} (h : w.st.Absent t) :
    w.close.term t = w.st.term t ∧ ∀ e j, w.close.job e = some j → j.term ≠ t := by
  obtain ⟨⟨-, hworker, -⟩, hrec⟩ := w.close_spares t h
  exact ⟨hrec, fun e j hj ht => hworker e (by rw [State.worker, hj, ← ht]; rfl)⟩

/-- The end of an event leaves the control port and the fields of no unit as they were. -/
theorem State.frame_of_kept {s v : State} (h : v.kept = s.mlHunt.kept) :
    s.sameRest v ∧ s.samePort v ∧ v.mlRx = ⟨.hunt, 0, [], 0⟩ :=
  ⟨⟨(kept_startCause h :), (kept_params h :), (kept_ladder h :), (kept_hold h :), (kept_lastFrame h :),
    (kept_modemSilent h :), (kept_silenceMs h :), (kept_cursor h :), (kept_pending h :), (kept_freeIndex h :)⟩,
    ⟨(kept_cpRx h :), (kept_reqBuf h :), (kept_reply h :)⟩, (kept_mlRx h :)⟩

/-- The check for CLEAR at the end of an event that evaluates (R133, R135). -/
theorem Work.checkClear_trigger {x : State} {m : Mode} (hm : m = if x.someWaiting = false then .clear else x.mode) :
    (Work.trigger x).checkClear =
      .trigger { x with mode := m, sectorMark := x.sectorMark || decide (m ≠ x.mode) } :=
  Work.checkClearIf_eq (.trigger x) (left := true) (hm.trans (by simp only [Work.trigger, true_and]))

/-- Where the terminal written does not wait, a terminal waits exactly where another does. -/
theorem State.served_someWaiting {s : State} {t : TermId} {r : TermRec} {remark : Bool} {sent : List OutMsg}
    {es : Vector (Option Job) 4} (hr : r.state.waiting = false) :
    (s.served t r remark sent es).someWaiting = false ↔ ∀ u, u ≠ t → (s.term u).state.waiting = false := by
  rw [← Bool.not_eq_true, State.someWaiting_iff, not_exists]
  refine forall_congr' fun u => ?_
  rw [State.served_term, Bool.not_eq_true]
  by_cases hu : u = t
  · simp [hu, hr]
  · simp [hu]

/-- A job that holds a terminal is that terminal's. -/
theorem State.holds.term_eq {s : State} {t : TermId} {e : EngineId} {j : Job} (h : s.holds t e j) : j.term = t := by
  obtain ⟨-, hengine, hjob⟩ := h
  obtain ⟨i, hi, ht⟩ := State.job_of_engineOf hengine
  exact Option.some.inj (hi.symm.trans hjob) ▸ ht

/-- A BURST or a MISS is a report of its terminal, and the gate counts it (R30). -/
theorem exec_counted {s : State} {c : Instr} {m errors : Byte} {b : FrameNo} {level : BitVec 16} {g g' : Gate}
    (h : (c = .burst m b level errors ∧ g' = g.count (some (receivedResponse level errors))) ∨
      (c = .miss m b ∧ g' = g.count none)) :
    ∃ o, exec c s = .next (s.mlHunt.takeReport m b o) ∧ g' = g.count o := by
  rcases h with ⟨rfl, hg⟩ | ⟨rfl, hg⟩
  · exact ⟨_, exec_burst s m errors b level, hg⟩
  · exact ⟨_, exec_miss s m b, hg⟩

/-- A report not earlier than a frame that is kept, if any. -/
theorem not_earlier_any {b : FrameNo} {o : Option FrameNo}
    (h : ∀ a, o = some a → ¬ (1 ≤ (a - b).toNat ∧ (a - b).toNat ≤ 32767)) : ¬ o.any (fun a => earlier b a) = true :=
  fun hany => by
    obtain ⟨a, ha, hearly⟩ := (earlier_any_iff b o).mp hany
    exact h a ha hearly

section Gate

variable {s : State} {t : TermId} {e : EngineId} {j : Job} {g : Gate} {F : Nat} {md mu : Int}

/-- An ACCEPTED gate with neither direction below floor hands the terminal back on its entry profiles (R53, R112). -/
theorem State.judgeVerify_handsBack (hst : (s.term j.term).state = .active) (hr : 1 ≤ g.responses)
    (he : g.errorTotal ≤ g.depth * s.params.errLimit)
    (hF : F = smooth s.params.alpha (s.term j.term).fade
      (fadeSample (s.term j.term).refLevel g.power (g.levelSum.fdiv g.responses)))
    (hmd : md = marginDown (s.term j.term).sd (downFade F s.params.ratio)) (hmu : mu = marginUp (s.term j.term).su g.power F)
    (hd : ¬ md < s.ladder.at 0) (hu : ¬ (mu < s.ladder.at 0 ∧ (s.term j.term).pc = (s.term j.term).pmax)) :
    s.judgeVerify e j g =
      (Work.trigger (s.served j.term
        (({ s.term j.term with fade := F } : TermRec).handedBack (entryProfile s.ladder mu) (entryProfile s.ladder md)
          s.params.holdOffLoad) true [.profile j.term (entryProfile s.ladder mu) (entryProfile s.ladder md)]
        (s.setJob e none).engines)).checkClear := by
  unfold State.judgeVerify
  rw [Gate.verdict_accepted hr he]
  unfold State.verifyAccepted
  dsimp only
  have hfade : smooth s.params.alpha (s.term j.term).fade (g.sample (s.term j.term).refLevel) = F := hF.symm
  rw [hfade]
  simp only [State.setTerm_params, State.setTerm_ladder, ← hmd, ← hmu]
  rw [belowFloor_neither hd hu]
  refine (State.handBack_eq _ _ _ _ _ (by rw [State.setTerm_term_self]; exact hst)).trans ?_
  rw [State.setTerm_served, State.setTerm_term_self]
  rfl

end Gate

/-- What a hand-back leaves at the end of its event (R53, R135). -/
theorem Work.close_handedBack {s : State} {t : TermId} {e : EngineId} {r : TermRec} {msg : OutMsg} {m : Mode} {v : State}
    (hlaw : CollectionsLaw s) (he : s.worker e = some t) (hr : r.state = .serving)
    (hm : m = if ∀ u, u ≠ t → (s.term u).state.waiting = false then .clear else s.mode)
    (hv : v = (Work.trigger (s.served t r true [msg] (s.setJob e none).engines)).checkClear.close) :
    v.term t = r ∧ v.outbox = s.outbox ++ [msg] ∧ v.marked t = true ∧ (∀ e' j', v.job e' = some j' → j'.term ≠ t) ∧
    (∀ u, u ≠ t → (s.term u).sameButPlace (v.term u)) ∧ v.mode = m ∧
    v.sectorMark = (s.sectorMark || decide (m ≠ s.mode)) ∧
    v.closedFrom (.trigger { s with
      terms := (s.setTerm t r).terms, marks := (s.mark t).marks, engines := (s.setJob e none).engines, mode := m }) ∧
    v.polls = s.polls ∧ v.lossWindow = s.lossWindow ∧ v.kept = s.kept := by
  have hterm := fun u => s.served_term t u r true [msg] (s.setJob e none).engines
  have hmarked := s.served_marked t t r true [msg] (s.setJob e none).engines
  have habsent := (State.absent_of_idle hlaw he).congr (v := s.served t r true [msg] (s.setJob e none).engines) rfl rfl rfl
  have hwaits := State.served_someWaiting (s := s) (t := t) (remark := true) (sent := [msg]) (es := (s.setJob e none).engines)
    (show r.state.waiting = false by rw [hr]; rfl)
  rw [Work.checkClear_trigger (m := m) (by simp only [hwaits]; exact hm)] at hv
  generalize hw : Work.trigger _ = w at hv
  subst hv
  have hst : w.st = { s.served t r true [msg] (s.setJob e none).engines with
      mode := m, sectorMark := s.sectorMark || decide (m ≠ s.mode) } := by rw [← hw]; rfl
  have hdue : w.due = true := by rw [← hw]; rfl
  obtain ⟨hsector, hout, hpolls, hmode, hwin⟩ := w.close_fields
  obtain ⟨hrec, hjobs⟩ := Work.close_absent (w := w) (t := t) (by rw [hst]; exact habsent.congr rfl rfl rfl)
  have hterm : ∀ u, w.st.term u = if u = t then r else s.term u := fun u => by
    rw [hst]
    exact hterm u
  refine ⟨hrec.trans ((hterm t).trans (if_pos rfl)), hout.trans (by rw [hst]; rfl), (w.close_plays t).2 ?_, hjobs,
    (Work.close_sameButPlace_of hterm).2, hmode.trans (by rw [hst]), hsector.trans (by rw [hst]), ?_,
    hpolls.trans (by rw [hst]; rfl), hwin.trans (by rw [hst]; rfl), w.close_kept.trans (by rw [hst]; rfl)⟩
  · rw [hst]
    exact hmarked.trans (by simp)
  · rw [← hw]
    exact State.closedFrom_of_arbPart (due := true) rfl

/-- Settles O40: the record and the idle engine, the check for CLEAR, and the evaluation that the idle engine makes due. -/
theorem verifyHandsBack : Obligations.VerifyHandsBack := by
  intro s m errors b level t e j g g' c F md mu up down hlaw hm hh hp hg hfrom hc hdepth hresp herr hF hmd hmu hd hu hup hdown
  obtain ⟨o, hexec, rfl⟩ := exec_counted (s := s) hc
  obtain rfl := hh.term_eq
  obtain ⟨hst, -, hjob⟩ := id hh
  have hjudge : s.mlHunt.judgeVerify e j (g.count o) = (Work.trigger (s.mlHunt.served j.term
      (({ s.term j.term with fade := F } : TermRec).handedBack up down s.params.holdOffLoad) true
      [.profile j.term up down] (s.mlHunt.setJob e none).engines)).checkClear := by
    rw [hup, hdown]
    exact State.judgeVerify_handsBack (s := s.mlHunt) hst hresp herr hF hmd hmu hd hu
  have hreport := State.takeReport_verify (s := s.mlHunt) (o := o) (b := b) hm hh hp
  rw [State.verifyReport_full hg (not_earlier_any hfrom) hdepth, hjudge] at hreport
  obtain ⟨hrec, hout, hmark, hjobs, hothers, hmode, hsector, hclosed, hpolls, hwin, hkept⟩ :=
    Work.close_handedBack (s := s.mlHunt) (e := e) hlaw (State.worker_of_job hjob) rfl rfl hreport
  refine ⟨_, hexec, hrec, hout, hmark, hjobs, hothers, hmode, hsector.trans ?_, ?_, hpolls, hwin, State.frame_of_kept hkept⟩
  · rw [hmode]
    rfl
  · rw [hrec, hmode]
    exact hclosed.of_arbPart rfl

end Sys2Proof.Machine
end

section
/-! Poll results: where they are dropped, how a search gate counts them, and a gate judged with the search going on
(R29, R31, R96 to R99, R122, R123, R147). -/

namespace Sys2Proof.Machine

/-! ### The message -/

theorem exec_pollResult (s : State) (tag outcome errors : Byte) (level : BitVec 16) :
    exec (.pollResult tag outcome level errors) s = .next (s.mlHunt.takePollResult tag outcome level errors) := rfl

/-- The outcome codes (R173). -/
theorem pollOutcomeOf_cases (outcome errors : Byte) (level : BitVec 16) :
    (outcome.toNat = 0 ∧ pollOutcomeOf outcome level errors = some none) ∨
    (outcome.toNat = 1 ∧ pollOutcomeOf outcome level errors = some (some (receivedResponse level errors))) ∨
    (1 < outcome.toNat ∧ pollOutcomeOf outcome level errors = none) := by
  unfold pollOutcomeOf
  split
  · next h => exact .inl ⟨by rw [h]; rfl, rfl⟩
  · next h0 =>
    split
    · next h => exact .inr (.inl ⟨by rw [h]; rfl, rfl⟩)
    · next h1 => exact .inr (.inr ⟨by bv_omega, rfl⟩)

/-- A known code is an outcome, and code 0 is SILENT (R173). -/
theorem pollOutcomeOf_known {outcome : Byte} (errors : Byte) (level : BitVec 16) (h : outcome.toNat ≤ 1) :
    ∃ o, pollOutcomeOf outcome level errors = some o ∧ (outcome.toNat = 0 → o = none) := by
  rcases pollOutcomeOf_cases outcome errors level with ⟨-, ho⟩ | ⟨h1, ho⟩ | ⟨hlarge, -⟩
  · exact ⟨none, ho, fun _ => rfl⟩
  · exact ⟨_, ho, fun h0 => by omega⟩
  · omega

section Outcome

variable {s : State} {tag outcome errors : Byte} {level : BitVec 16} {k : PollTag} {o : Option Response}

/-- A result with a known code is the outcome of its tag (R122). -/
theorem State.takePollResult_named (hk : tag.toNat = k.val) (ho : pollOutcomeOf outcome level errors = some o) :
    s.takePollResult tag outcome level errors = (s.takeOutcome k o).close := by
  have htag : ∀ h : tag.toNat < 8, (⟨tag.toNat, h⟩ : PollTag) = k := fun _ => Fin.ext hk
  unfold State.takePollResult
  rw [dif_pos (by omega), ho, htag]

/-- A result with a tag above 7 or an unknown code is dropped (R147). -/
theorem State.takePollResult_unnamed (h : 7 < tag.toNat ∨ 1 < outcome.toNat) :
    s.takePollResult tag outcome level errors = s := by
  unfold State.takePollResult
  split
  · have hnone : pollOutcomeOf outcome level errors = none := by
      rcases pollOutcomeOf_cases outcome errors level with ⟨h0, -⟩ | ⟨h1, -⟩ | ⟨-, hnone⟩
      · omega
      · omega
      · exact hnone
    rw [hnone]
  · rfl

/-- A freed place moves nothing the arbiter reads. -/
theorem Work.close_setPoll (hflag : FlagLaw s) : (Work.quiet (s.setPoll k none)).close = s.setPoll k none :=
  Work.close_still hflag rfl (State.preemptBlocked_congr rfl (fun _ => rfl) rfl rfl fun _ => rfl)

/-! ### The owner of an outcome -/

/-- An outcome with no owner left, or that its owner passes over, frees its place and does nothing else (R123, R129). -/
theorem State.takeOutcome_unheeded {p : PollEntry} (hp : s.poll k = some p)
    (h : p.stale = true ∨ (∃ e n, p.owner = .engine e n ∧ ∀ j, s.job e = some j → j.serial ≠ n) ∨
      (p.owner = .sweep ∧ (o = none ∨ (s.term p.term).state.swept = false))) :
    s.takeOutcome k o = .quiet (s.setPoll k none) := by
  rcases h with hstale | ⟨e, n, howner, hjob⟩ | ⟨howner, hsweep⟩
  · exact State.takeOutcome_stale s k p o hp hstale
  · unfold State.takeOutcome State.matchOutcome State.engineOutcome
    rw [hp]
    dsimp only
    rw [howner]
    dsimp only
    split
    · rfl
    · cases hj : (s.setPoll k none).job e with
      | none => rfl
      | some j => exact if_neg (hjob j hj)
  · unfold State.takeOutcome State.matchOutcome State.sweepOutcome
    rw [hp]
    dsimp only
    rw [howner]
    dsimp only
    rcases hsweep with rfl | hswept
    · simp
    · simp [hswept]

variable {e : EngineId} {j : Job} {g : Gate}

/-- The outcome of the poll a job waits for is handed to it (R123). -/
theorem State.takeOutcome_awaited (h : s.awaits k e j g) : s.takeOutcome k o = (s.setPoll k none).handOutcome e j o := by
  obtain ⟨⟨p, hp, howner, hstale⟩, hjob, -, -⟩ := h
  unfold State.takeOutcome State.matchOutcome State.engineOutcome
  rw [hp]
  dsimp only
  rw [howner]
  dsimp only
  rw [hstale, State.setPoll_job, hjob]
  exact if_pos rfl

/-- An outcome short of the depth ends the poll in flight and is counted (R29, R96). -/
theorem State.handOutcome_counted (hsearch : j.phase.searching = true) (hg : j.gate = some g) (hdepth : g.counted + 1 < g.depth) :
    s.handOutcome e j o = .quiet (s.setJob e (some { j with pollInFlight := none, gate := some (g.count o) })) := by
  obtain ⟨hd, -, -, hc⟩ := g.count_fields o
  unfold State.handOutcome
  dsimp only
  rw [hg]
  refine (if_pos hsearch).trans (if_neg ?_)
  simp only [Gate.full, hd, hc, decide_eq_true_eq]
  omega

/-- An outcome that completes the gate has it judged (R29, R31). -/
theorem State.handOutcome_full (hsearch : j.phase.searching = true) (hg : j.gate = some g)
    (hdepth : (g.count o).depth ≤ (g.count o).counted) :
    s.handOutcome e j o = s.judgeSearch e { j with pollInFlight := none } (g.count o) := by
  unfold State.handOutcome
  dsimp only
  rw [hg]
  exact (if_pos hsearch).trans (if_pos (decide_eq_true hdepth))

/-- A result for the poll a job waits for, where it completes the gate. -/
theorem exec_pollResult_judged (hk : tag.toNat = k.val) (ho : pollOutcomeOf outcome level errors = some o)
    (h : s.awaits k e j g) (hdepth : (g.count o).depth ≤ (g.count o).counted) :
    exec (.pollResult tag outcome level errors) s =
      .next ((s.mlHunt.setPoll k none).judgeSearch e { j with pollInFlight := none } (g.count o)).close := by
  rw [exec_pollResult, State.takePollResult_named hk ho, State.takeOutcome_awaited (s := s.mlHunt) (j := j) (g := g) h,
    State.handOutcome_full h.2.2.1 h.2.2.2 hdepth]

end Outcome

/-- The states the sweep does not probe (R127). -/
theorem TermState.swept_false {a : TermState} (h : a ∈ [TermState.unused, .serving, .active, .suspended, .barred]) :
    a.swept = false := by
  cases a <;> simp_all [TermState.swept]

/-- Settles O42: the drops of R147 and R122, the owner of R123 and R129, and the count of R29. -/
theorem pollOutcomes : Obligations.PollOutcomes := by
  refine ⟨fun s tag outcome errors level hflag => ⟨fun h => ?_, fun k p hk hout hp h => ?_⟩,
    fun s tag errors level k e j g hflag hk h hdepth => ?_⟩
  · have hnamed : 7 < tag.toNat ∨ 1 < outcome.toNat → s.mlHunt.takePollResult tag outcome level errors = s.mlHunt :=
      State.takePollResult_unnamed
    rcases h with htag | hout | ⟨k, hk, hfree⟩
    · exact congrArg _ (hnamed (.inl htag))
    · exact congrArg _ (hnamed (.inr hout))
    · rcases Nat.lt_or_ge 1 outcome.toNat with hout | hout
      · exact congrArg _ (hnamed (.inr hout))
      · obtain ⟨o, ho, -⟩ := pollOutcomeOf_known errors level hout
        rw [exec_pollResult, State.takePollResult_named hk ho, State.takeOutcome_free s.mlHunt k o hfree]
        exact congrArg _ (State.reexamine_of_flag (s := s.mlHunt) hflag)
  · obtain ⟨o, ho, hsilent⟩ := pollOutcomeOf_known errors level hout
    have hunheeded : s.mlHunt.takeOutcome k o = .quiet (s.mlHunt.setPoll k none) :=
      State.takeOutcome_unheeded (s := s.mlHunt) hp
        (h.imp_right fun h => h.imp_right fun h => h.imp_right fun h => h.imp hsilent TermState.swept_false)
    rw [exec_pollResult, State.takePollResult_named hk ho, hunheeded]
    exact congrArg _ (Work.close_setPoll (s := s.mlHunt) hflag)
  · have hcount : ∀ o, (s.mlHunt.takeOutcome k o).close = (s.mlHunt.setPoll k none).setJob e
        (some { j with pollInFlight := none, gate := some (g.count o) }) := fun o => by
      rw [State.takeOutcome_awaited (s := s.mlHunt) (j := j) (g := g) h, State.handOutcome_counted h.2.2.1 h.2.2.2 hdepth]
      refine Work.close_setJob (j := j) ?_ h.2.1 rfl
      exact hflag
    rw [exec_pollResult, exec_pollResult, State.takePollResult_named hk (o := some (receivedResponse level errors)) rfl,
      State.takePollResult_named hk (o := none) rfl, hcount, hcount, receivedResponse_eq]
    exact ⟨rfl, rfl⟩

/-! ### A search gate judged -/

section Judged

variable {s : State} {e : EngineId} {j : Job} {g : Gate}

theorem State.judgeSearch_accepted (hr : 1 ≤ g.responses) (he : g.errorTotal ≤ g.depth * s.params.errLimit) :
    s.judgeSearch e j g = .quiet (s.searchAccepted e j g.power (g.sample (s.term j.term).refLevel)) := by
  unfold State.judgeSearch
  rw [Gate.verdict_accepted hr he]

/-- A gate not ACCEPTED is SILENT exactly where nothing answered (R31). -/
theorem State.judgeSearch_missed (h : g.responses = 0 ∨ g.depth * s.params.errLimit < g.errorTotal) :
    ∃ v, v ≠ .accepted ∧ (v = .silent ↔ g.responses = 0) ∧ s.judgeSearch e j g = s.searchMissed e j g v := by
  unfold State.judgeSearch
  rcases g.verdict_cases s.params.errLimit with ⟨hv, h0⟩ | ⟨-, h1, hlow⟩ | ⟨hv, h1, -⟩
  · exact ⟨.silent, by decide, by simp [h0], by rw [hv]⟩
  · omega
  · exact ⟨.heard, by decide, by simp only [reduceCtorEq, false_iff]; omega, by rw [hv]⟩

/-- The job after a gate not ACCEPTED (R97, R98), before the next gate begins. -/
theorem State.searchMissed_goes {v : Verdict} (h : g.power < (s.term j.term).pmax ∨
      (if (s.term j.term).pmax ≤ g.power then j.limitCount + 1 else j.limitCount) < s.params.limitPolls) :
    s.searchMissed e j g v = .quiet (s.setJob e (some (({ j with
      limitCount := if (s.term j.term).pmax ≤ g.power then j.limitCount + 1 else j.limitCount
      phase := phaseAfterMiss j.phase v
      pollPower := powerAfterMiss j.phase v g.power (s.term j.term).pmax s.params.coarseStep s.params.fineStep } :
        Job).beginGate (s.term j.term)))) := by
  unfold State.searchMissed Job.raiseLimit Job.limitReached
  by_cases hc : (s.term j.term).pmax ≤ g.power
  · have hlimit : ¬ s.params.limitPolls ≤ j.limitCount + 1 := by
      rw [if_pos hc] at h
      omega
    simp [hc, hlimit]
  · simp [hc]

/-- Phase and power after a gate not ACCEPTED, by the table of R97. -/
theorem afterMiss_eq {v : Verdict} (hv : v ≠ .accepted) (p : Phase) (power pmax coarse fine : Nat) :
    phaseAfterMiss p v = (if p = .coarse ∧ v = .silent then .coarse else .fine) ∧
    powerAfterMiss p v power pmax coarse fine =
      (if p = .coarse then (if v = .silent then min (power + coarse) pmax else power) else min (power + fine) pmax) := by
  refine ⟨rfl, ?_⟩
  cases p with
  | coarse =>
    cases v with
    | accepted => exact absurd rfl hv
    | heard => rfl
    | silent => rfl
  | fine => rfl
  | confirm => rfl
  | settle => rfl
  | verify => rfl

/-- An ACCEPTED gate with CONFIRM gates left to gather (R97, R99). -/
theorem State.searchAccepted_goes {p fu left : Nat}
    (hleft : left = if j.phase = .confirm then j.confirmLeft - 1 else s.params.confirmCount - 1) (h : 1 ≤ left) :
    s.searchAccepted e j p fu = s.setJob e (some (({ j with
      phase := .confirm, confirmLeft := left, pollPower := p, lastSample := some fu } : Job).beginGate (s.term j.term))) := by
  unfold State.searchAccepted
  rw [← hleft]
  exact if_neg (by omega)

end Judged

/-- Settles O43: the two judgements that keep the job searching, so that no trigger falls due (R97, R99). -/
theorem searchGateJudged : Obligations.SearchGateJudged := by
  refine ⟨fun s tag outcome errors level k e j g g' o r limit power phase hflag hk ho h hg hdepth hmiss hr hlimit hbelow hphase
    hpower => ?_, fun s tag outcome errors level k e j g g' o r left hflag hk ho h hg hdepth hresp herr hr hleft hmore => ?_⟩
  · subst hg hr
    have hflag : FlagLaw (s.mlHunt.setPoll k none) := hflag
    obtain ⟨v, hv, hsilent, hjudge⟩ := State.judgeSearch_missed (s := s.mlHunt.setPoll k none) (e := e)
      (j := { j with pollInFlight := none }) hmiss
    obtain ⟨hnext, hrise⟩ := afterMiss_eq hv j.phase (g.count o).power (s.term j.term).pmax s.params.coarseStep
      s.params.fineStep
    have hphase' : phaseAfterMiss j.phase v = phase := by simp only [hnext, hphase, hsilent]
    have hpower' : powerAfterMiss j.phase v (g.count o).power (s.term j.term).pmax s.params.coarseStep s.params.fineStep =
        power := by simp only [hrise, hpower, hsilent]
    rw [exec_pollResult_judged hk ho h hdepth, hjudge,
      State.searchMissed_goes (s := s.mlHunt.setPoll k none) (j := { j with pollInFlight := none })
        (hbelow.imp_right fun hlt => by exact hlimit ▸ hlt),
      Work.close_setJob (j := j) hflag h.2.1, Job.beginGate_eq]
    · simp only [← hphase', ← hpower', hlimit]
      rfl
    · have hsearch : (phaseAfterMiss j.phase v).searching = true := by
        rw [hnext]
        split <;> rfl
      exact congrArg (fun b => (j.cls, j.serial, b)) (hsearch.trans h.2.2.1.symm)
  · subst hg hr
    have hflag : FlagLaw (s.mlHunt.setPoll k none) := hflag
    rw [exec_pollResult_judged hk ho h hdepth, State.judgeSearch_accepted (s := s.mlHunt.setPoll k none) hresp herr,
      State.searchAccepted_goes (s := s.mlHunt.setPoll k none) (j := { j with pollInFlight := none }) hleft hmore,
      Work.close_setJob (j := j) hflag h.2.1, Job.beginGate_eq]
    · rfl
    · exact congrArg (fun b => (j.cls, j.serial, b)) h.2.2.1.symm

end Sys2Proof.Machine
end

section
/-! The end of CONFIRM: the found power, F, ADMIT and the entry into SETTLE or VERIFY (R37, R59, R100, R105, R111). -/

namespace Sys2Proof.Machine

/-! ### The targets as minima and maxima -/

theorem powerTarget_eq (fade allowance pmax : Nat) : powerTarget fade allowance pmax = min (fade - allowance) pmax := by
  unfold powerTarget
  rw [clampInt_eq _ _ _ (by omega)]
  omega

theorem settleTarget_eq (target found pmax : Nat) : settleTarget target found pmax = min (max target found) pmax := by
  unfold settleTarget
  rw [clampNat_zero]

/-- The completion does not touch the found power nor F. -/
theorem TermRec.completed_found (r : TermRec) (found : Option Nat) (fu : Nat) (n : FrameNo) :
    ({ r with foundPower := found, fade := fu } : TermRec).completed n =
      { r.completed n with foundPower := found, fade := fu } := by
  have hat : ({ r with foundPower := found, fade := fu } : TermRec).atEffect n = r.atEffect n := rfl
  have heffective : ({ r with foundPower := found, fade := fu } : TermRec).effective =
      { r.effective with foundPower := found, fade := fu } := by
    unfold TermRec.effective
    cases hp : r.pendingCmd <;> simp [hp]
  unfold TermRec.completed
  rw [hat, heffective]
  split <;> rfl

section Admit

variable (s : State) (e : EngineId) (j : Job) (t : TermId) (r : TermRec)

/-- The record an ADMIT leaves of a completed one (R59). -/
def TermRec.admittedAt (v : Nat) (f : FrameNo) : TermRec := { r.superseded v f with up := 0, down := 0 }

/-- An engine's ADMIT as one write of the record, the mark and the message (R56, R59, R7). -/
theorem State.admitTerm_eq {v : Nat} (h : r = (s.term t).completed s.lastFrame) (hv : v ≤ r.pmax) :
    s.admitTerm t v =
      s.served t (r.admittedAt v s.effectFrame) (decide ¬ (r.up = 0 ∧ r.down = 0)) [.admission t v s.effectFrame 0 0]
        s.engines := by
  have hframe : (s.complete t).effectFrame = s.effectFrame := rfl
  have hvalue : r.issueValue v = v := by
    unfold TermRec.issueValue
    rw [clampNat_zero, Nat.min_eq_left hv]
  unfold State.admitTerm
  simp only [State.complete_term_self, hframe, ← h, hvalue]
  rw [State.complete, State.setTerm_setTerm, State.writeProfiles_eq, State.served_send, State.setTerm_term_self,
    State.setTerm_served]
  rfl

theorem State.served_setJob (remark : Bool) (sent : List OutMsg) (o : Option Job) :
    (s.served t r remark sent s.engines).setJob e o = s.served t r remark sent (s.setJob e o).engines := rfl

/-- The job that SETTLE begins with, or VERIFY where the target is the power already in force (R105, R111). -/
def Job.settling (f : FrameNo) (target pc depth slow spacing : Nat) : Job :=
  { j with
    phase := if target = pc then .verify else .settle
    admitFrame := some f, cmdFrame := some f, settleMiss := 0, lastSample := none
    ramp := if target = pc then none else some ⟨target, slow, .still, spacing⟩
    gate := if target = pc then some (.begun depth pc (some f)) else none }

theorem State.beginSettle_eq (f : FrameNo) (h : s.term j.term = r) :
    s.beginSettle e j f = s.setJob e (some (j.settling f
      (settleTarget (powerTarget r.fade s.params.allowance r.pmax) (r.foundPower.getD 0) r.pmax) r.pc r.depth
      s.params.slowStep s.tickSpacing)) := by
  subst h
  unfold State.beginSettle Job.settling
  dsimp only
  split
  · next heq => simp only [State.rampTarget] at heq; simp only [heq, if_true]; rfl
  · next hne => simp only [State.rampTarget] at hne; simp only [hne, if_false]; rfl

end Admit

section Confirm

variable {s : State} {e : EngineId} {j : Job} {r : TermRec} {p fu found target : Nat} {f : FrameNo}

/-- The end of CONFIRM as one write of the record, the mark, ADMIT and the job (R37, R100, R105). -/
theorem State.endConfirm_eq (hr : r = (s.term j.term).completed s.lastFrame) (hfound : found = min p r.pmax)
    (hf : f = s.effectFrame) (ht : target = min (max (min (fu - s.params.allowance) r.pmax) found) r.pmax) :
    s.endConfirm e j p fu =
      s.served j.term (({ r with foundPower := some found, fade := fu } : TermRec).admittedAt found f)
        (decide ¬ (r.up = 0 ∧ r.down = 0)) [.admission j.term found f 0 0]
        (s.setJob e (some (j.settling f target found r.depth s.params.slowStep s.tickSpacing))).engines := by
  have hpmax : r.pmax = (s.term j.term).pmax := by rw [hr, TermRec.completed_pmax]
  have hclamp : clampNat 0 (s.term j.term).pmax p = found := by rw [clampNat_zero, hfound, hpmax]
  have hadmit : (s.setTerm j.term { s.term j.term with foundPower := some found, fade := fu }).admitTerm j.term found =
      s.served j.term (({ r with foundPower := some found, fade := fu } : TermRec).admittedAt found f)
        (decide ¬ (r.up = 0 ∧ r.down = 0)) [.admission j.term found f 0 0] s.engines := by
    rw [State.admitTerm_eq _ _ { r with foundPower := some found, fade := fu }
      (by rw [State.setTerm_term_self, State.setTerm_lastFrame, TermRec.completed_found, ← hr])
      (hfound ▸ Nat.min_le_right _ _), State.setTerm_served, hf]
    rfl
  have hterm := (s.served_term j.term j.term (({ r with foundPower := some found, fade := fu } : TermRec).admittedAt found f)
    (decide ¬ (r.up = 0 ∧ r.down = 0)) [.admission j.term found f 0 0] s.engines).trans (if_pos rfl)
  have htarget : settleTarget (powerTarget fu s.params.allowance r.pmax) found r.pmax = target := by
    rw [settleTarget_eq, powerTarget_eq, ht]
  unfold State.endConfirm
  dsimp only
  rw [hclamp, hadmit, State.beginSettle_eq _ _ _ _ _ hterm, State.served_setJob, ← htarget, hf]
  rfl

/-- An ACCEPTED gate with no CONFIRM gate left ends CONFIRM (R99, R100). -/
theorem State.searchAccepted_ends (h : (if j.phase = .confirm then j.confirmLeft - 1 else s.params.confirmCount - 1) = 0) :
    s.searchAccepted e j p fu = s.endConfirm e { j with
      phase := .confirm, confirmLeft := 0, pollPower := p, lastSample := some fu } p fu := by
  unfold State.searchAccepted
  dsimp only
  rw [h]
  rfl

end Confirm

/-- Settles O44: one write of record, mark, message and job; no trigger, so the end re-examines preempt-pending only. -/
theorem confirmAdmits : Obligations.ConfirmAdmits := by
  intro s tag outcome errors level k e j g g' o r found fu target f hk ho h hg hdepth hresp herr hr hleft hfound hfu hf ht
  subst hg
  have href : (s.term j.term).refLevel = r.refLevel := by rw [hr, TermRec.completed_eq]
  have hsample : (g.count o).sample (s.term j.term).refLevel = fu := by rw [hfu, href]; rfl
  obtain ⟨j', hj'⟩ : ∃ j', j' = ({ j with
      pollInFlight := none, phase := .confirm, confirmLeft := 0, pollPower := (g.count o).power
      lastSample := some fu } : Job).settling f target found r.depth s.params.slowStep s.tickSpacing := ⟨_, rfl⟩
  have hjudge : (s.mlHunt.setPoll k none).judgeSearch e { j with pollInFlight := none } (g.count o) = .quiet
      ((s.mlHunt.setPoll k none).served j.term
        (({ r with foundPower := some found, fade := fu } : TermRec).admittedAt found f) (decide ¬ (r.up = 0 ∧ r.down = 0))
        [.admission j.term found f 0 0] ((s.mlHunt.setPoll k none).setJob e (some j')).engines) := by
    rw [State.judgeSearch_accepted (s := s.mlHunt.setPoll k none) hresp herr,
      State.searchAccepted_ends (s := s.mlHunt.setPoll k none) (j := { j with pollInFlight := none }) hleft, hj']
    refine congrArg Work.quiet ((congrArg _ hsample).trans ?_)
    exact State.endConfirm_eq (s := s.mlHunt.setPoll k none) hr hfound hf ht
  refine ⟨_, j', exec_pollResult_judged hk ho h hdepth, ?_⟩
  rw [hjudge, Work.close_quiet]
  refine ⟨State.setTerm_term_self s j.term _, rfl, rfl, fun u => ?_, hj', State.setJob_job_self s e _,
    fun e' he => State.setJob_job_ne s _ he, fun u hu => State.setTerm_term_ne s _ hu, rfl, rfl, rfl, rfl, rfl, rfl,
    rfl, State.frame_of_kept rfl⟩
  refine (State.served_marked s j.term u (s.term j.term) (decide ¬ (r.up = 0 ∧ r.down = 0)) [] s.engines).trans ?_
  simp

end Sys2Proof.Machine
end

section
/-! A sweep response: a waiting terminal heard, and the end of an outage (R74, R76, R129 to R131, R142). -/

namespace Sys2Proof.Machine

section Hear

variable {s : State} {t : TermId} {r : TermRec}

/-- The end of an outage as one write of the mode (R133, R142). -/
theorem State.endOutage_eq (s : State) :
    s.endOutage = ⟨{ s with
      mode := if s.mode = .outage then .degraded else s.mode
      sectorMark := s.sectorMark || decide (s.mode = .outage) }, decide (s.mode = .outage)⟩ := by
  unfold State.endOutage
  by_cases h : s.mode = .outage
  · rw [if_pos h, State.setMode_eq]
    simp [h, Work.trigger]
  · rw [if_neg h]
    simp [h, Work.quiet]

/-- The state after a terminal was heard, `m` the mode its join leaves. -/
def State.heardAt (s : State) (t : TermId) (r : TermRec) (m : Mode) : State :=
  { s with
    terms := (s.setTerm t r).terms
    marks := if (s.term t).state = .queued then s.marks else (s.mark t).marks
    queue := if (s.term t).state = .queued ∧ (s.term t).heard = true then s.queue
      else (((s.leaveQueue t).setTerm t r).joinEnd t).queue
    mode := m
    sectorMark := s.sectorMark || decide (m ≠ s.mode) }

/-- The record of a terminal heard (R76, R130). -/
def TermRec.heardNow (r : TermRec) : TermRec :=
  { r with
    state := .queued, heard := true
    backoff := if r.state = .backoff then 0 else r.backoff
    retries := if r.state = .held then 0 else r.retries }

theorem TermRec.heardNow_queued (h : r.state = .queued) : r.heardNow = { r with heard := true } := by
  cases r
  cases h
  rfl

theorem TermRec.heardNow_backoff (h : r.state = .backoff) :
    r.heardNow = { r with state := .queued, heard := true, backoff := 0 } := by
  cases r
  cases h
  rfl

theorem TermRec.heardNow_held (h : r.state = .held) :
    r.heardNow = { r with state := .queued, heard := true, retries := 0 } := by
  cases r
  cases h
  rfl

theorem State.leaveQueue_absent (h : t ∉ s.queue) : s.leaveQueue t = s := by
  have hkeep : s.queue.filter (· ≠ t) = s.queue :=
    List.filter_eq_self.mpr fun u hu => decide_eq_true fun (heq : u = t) => h (heq ▸ hu)
  unfold State.leaveQueue State.setQueue
  rw [hkeep]

/-- A terminal heard already stays as it is (R76). -/
theorem State.heardAt_again (hq : (s.term t).state = .queued) (hh : (s.term t).heard = true) :
    s.heardAt t (s.term t) s.mode = s := by
  unfold State.heardAt
  rw [State.setTerm_self, if_pos hq, if_pos ⟨hq, hh⟩]
  simp

/-- An unheard terminal of the queue moves to its heard group (R76). -/
theorem State.heardAt_regrouped (hq : (s.term t).state = .queued) (hh : ¬ (s.term t).heard = true) :
    s.heardAt t r s.mode = ((s.leaveQueue t).setTerm t r).joinEnd t := by
  unfold State.heardAt
  rw [if_pos hq, if_neg fun h => hh h.2]
  simp only [ne_eq, not_true_eq_false, decide_false, Bool.or_false]
  rfl

/-- A terminal heard outside the queue joins it (R74, R134). -/
theorem State.heardAt_rejoined {m : Mode} (hq : (s.term t).state ≠ .queued) (habsent : t ∉ s.queue)
    (hm : m = if s.mode = .clear then .degraded else s.mode) : s.heardAt t r m = s.rejoin t r := by
  have hsector : decide (m ≠ s.mode) = decide (s.mode = .clear) := by
    rw [hm]
    by_cases hclear : s.mode = .clear <;> simp [hclear]
  have hnot : ¬ ((s.term t).state = .queued ∧ (s.term t).heard = true) := fun h => hq h.1
  rw [State.rejoin_eq]
  unfold State.heardAt
  rw [State.leaveQueue_absent habsent, if_neg hq, if_neg hnot, hsector, hm]
  rfl

/-- What a heard response does to a waiting terminal, by its state (R76, R130). -/
theorem State.hear_eq (habsent : (s.term t).state ≠ .queued → t ∉ s.queue)
    (hst : (s.term t).state = .queued ∨ (s.term t).state = .backoff ∨ (s.term t).state = .held) :
    s.hear t = ⟨s.heardAt t (s.term t).heardNow
        (if s.mode = .clear ∧ (s.term t).state ≠ .queued then .degraded else s.mode),
      decide ¬ ((s.term t).state = .queued ∧ (s.term t).heard = true)⟩ := by
  have hout : ∀ a, a ≠ .queued → (s.term t).state = a → ∀ r, s.heardAt t r
      (if s.mode = .clear ∧ (s.term t).state ≠ .queued then .degraded else s.mode) = s.rejoin t r := fun a ha hst r =>
    State.heardAt_rejoined (hst ▸ ha) (habsent (hst ▸ ha)) (by simp [hst, ha])
  unfold State.hear
  split
  · next hq =>
    have hstay : (if s.mode = .clear ∧ (s.term t).state ≠ .queued then .degraded else s.mode) = s.mode :=
      if_neg fun h => h.2 hq
    rw [hstay, TermRec.heardNow_queued hq]
    split
    · next hheard =>
      have hself : ({ s.term t with heard := true } : TermRec) = s.term t := by rw [← hheard]
      rw [hself, State.heardAt_again hq hheard, decide_eq_false (not_not.mpr ⟨hq, hheard⟩)]
      rfl
    · next hheard =>
      rw [State.heardAt_regrouped hq hheard, decide_eq_true (not_and_of_not_right _ hheard)]
      rfl
  · next hb =>
    rw [hout .backoff (by decide) hb, TermRec.heardNow_backoff hb]
    dsimp only
    rw [State.join_setTerm_transition _ _ _ _ hb, State.transition_term_eq, if_pos rfl]
    simp [hb, TermRec.transit, Work.trigger]
  · next hh =>
    rw [hout .held (by decide) hh, TermRec.heardNow_held hh]
    dsimp only
    rw [State.join_setTerm_transition _ _ _ _ hh, State.transition_term_eq, if_pos rfl]
    simp [hh, TermRec.transit, Work.trigger]
  · next hq hb hh => exact (hst.elim hq fun h => h.elim hb hh).elim

/-- A heard response of a waiting terminal, the sector's mode with it (R131, R134, R142). -/
theorem State.heard_work {m : Mode} (habsent : (s.term t).state ≠ .queued → t ∉ s.queue)
    (hst : (s.term t).state = .queued ∨ (s.term t).state = .backoff ∨ (s.term t).state = .held)
    (hm : m = if s.mode = .outage then .degraded else if s.mode = .clear ∧ (s.term t).state ≠ .queued then .degraded
      else s.mode) :
    (s.hear t).andThen State.endOutage = ⟨s.heardAt t (s.term t).heardNow m,
      decide (¬ ((s.term t).state = .queued ∧ (s.term t).heard = true) ∨ s.mode = .outage)⟩ := by
  unfold Work.andThen
  rw [State.hear_eq habsent hst, State.endOutage_eq, hm]
  unfold State.heardAt
  cases hmode : s.mode with
  | clear => by_cases hq : (s.term t).state = .queued <;> simp [hq]
  | degraded => simp
  | outage => simp

end Hear

/-- A terminal at the end of its group stands after every terminal of its group or an earlier one, before the others. -/
theorem State.joinEnd_split (s : State) (t : TermId) :
    ∃ before after, before ++ after = s.queue ∧ (s.joinEnd t).queue = before ++ t :: after ∧
      (∀ u ∈ before, (s.term u).group ≤ (s.term t).group) ∧ ∀ u ∈ after.head?, (s.term t).group < (s.term u).group := by
  refine ⟨_, _, List.takeWhile_append_dropWhile, rfl, fun u hu => ?_, fun u hu => ?_⟩
  · exact of_decide_eq_true (List.mem_takeWhile_imp hu :)
  · rw [← List.find?_not_eq_head?_dropWhile] at hu
    simpa using List.find?_some hu

/-- The group of a heard terminal ends before the unheard ones of its class (R73). -/
theorem TermRec.group_le_heard {r r' : TermRec} (h : r.heard = true) :
    r'.group ≤ r.group ↔ r'.cls < r.cls ∨ (r'.cls = r.cls ∧ r'.heard = true) := by
  unfold TermRec.group
  rw [h]
  cases r'.heard
  · simp
  · simp
    omega

/-- A sweep entry's response, not stale, of a swept terminal (R129). -/
theorem State.takeOutcome_heard {s : State} {k : PollTag} {p : PollEntry} {m : Response} (hp : s.poll k = some p)
    (howner : p.owner = .sweep) (hfresh : p.stale = false) (hswept : (s.term p.term).state.swept = true) :
    s.takeOutcome k (some m) = ((s.setPoll k none).hear p.term).andThen State.endOutage := by
  unfold State.takeOutcome State.matchOutcome State.sweepOutcome
  rw [hp]
  dsimp only
  rw [howner]
  simp [hfresh, hswept]

/-- Settles O46: one write of record, mark, queue and mode, then the evaluation that the join or the end of the outage makes
due. -/
theorem sweepHears : Obligations.SweepHears := by
  intro s tag errors level k p t r hlaw hk hp howner hfresh ht hst hr
  subst ht
  have hswept : (s.term p.term).state.swept = true := by rcases hst with h | h | h <;> rw [h] <;> rfl
  have habsent : (s.term p.term).state ≠ .queued → p.term ∉ s.queue := fun hne hmem =>
    hne (((collectionsLaw_iff s).mp hlaw).queued hmem)
  obtain ⟨m, hm⟩ : ∃ m, m = if s.mode = .outage then .degraded
      else if s.mode = .clear ∧ (s.term p.term).state ≠ .queued then .degraded else s.mode := ⟨_, rfl⟩
  obtain ⟨w, hw⟩ : ∃ w : Work, w = ⟨(s.mlHunt.setPoll k none).heardAt p.term r m,
      decide (¬ ((s.term p.term).state = .queued ∧ (s.term p.term).heard = true) ∨ s.mode = .outage)⟩ := ⟨_, rfl⟩
  have hexec : exec (.pollResult tag 0x01 level errors) s = .next w.close := by
    rw [exec_pollResult, State.takePollResult_named hk rfl, State.takeOutcome_heard (s := s.mlHunt) hp howner hfresh hswept,
      State.heard_work (s := s.mlHunt.setPoll k none) habsent hst hm, hw, hr]
    rfl
  have hterm : ∀ u, w.st.term u = if u = p.term then r else s.term u := fun u => by
    rw [hw]
    exact s.setTerm_term p.term u r
  obtain ⟨hsector, hout, hpolls, hmode, hwin⟩ := w.close_fields
  have hmode : w.close.mode = m := hmode.trans (by rw [hw]; rfl)
  obtain ⟨hrec, hothers⟩ := Work.close_sameButPlace_of hterm
  obtain ⟨⟨hplay, -⟩, hmarked⟩ := w.close_plays p.term
  have hqueued : (w.st.term p.term).state = .queued := by
    rw [hterm, if_pos rfl, hr]
  refine ⟨w.close, hexec, hrec, (TermState.inPlay_iff _).mp (hplay (by rw [hqueued]; rfl)), hothers,
    hout.trans (by rw [hw]; rfl), hpolls.trans (by rw [hw]; rfl), hwin.trans (by rw [hw]; rfl), hmode.trans hm,
    fun hne => hmarked ?_, ?_, ?_, fun hhold hmoves => ?_, State.frame_of_kept (w.close_kept.trans (by rw [hw]; rfl))⟩
  · have hmarks : w.st.marks = (s.mark p.term).marks := by rw [hw]; exact if_neg hne
    have hself : (s.mark p.term).marked p.term = true := (s.mark_marked p.term p.term).trans (by simp)
    unfold State.marked at hself ⊢
    rw [hmarks]
    exact hself
  · rw [hmode]
    exact hsector.trans (by rw [hw]; rfl)
  · rw [hmode, hw]
    exact State.closedFrom_of_arbPart rfl
  · have hqueue : w.close.queue = (((s.leaveQueue p.term).setTerm p.term r).joinEnd p.term).queue := by
      have hst : w.close.queue = w.st.queue := by
        unfold Work.close
        rw [State.evaluate_skipped _ (.inl (by rw [hw]; exact hhold)), ite_self]
        rfl
      rw [hst, hw]
      exact if_neg hmoves
    have hheard : r.heard = true := by rw [hr]
    have hself : ((s.leaveQueue p.term).setTerm p.term r).term p.term = r := State.setTerm_term_self ..
    obtain ⟨before, after, hsplit, hjoin, hbefore, hafter⟩ := ((s.leaveQueue p.term).setTerm p.term r).joinEnd_split p.term
    have hmem : ∀ u ∈ before ++ after, ((s.leaveQueue p.term).setTerm p.term r).term u = s.term u := fun u hu => by
      rw [hsplit] at hu
      exact State.setTerm_term_ne _ _ (of_decide_eq_true (List.mem_filter.mp hu).2)
    refine ⟨before, after, hsplit, hqueue.trans hjoin, fun u hu => ?_, fun u hu => ?_⟩
    · have hgroup := hbefore u hu
      rwa [hself, hmem u (List.mem_append_left _ hu), TermRec.group_le_heard hheard] at hgroup
    · have hgroup := hafter u hu
      rw [hself, hmem u (List.mem_append_right _ (List.mem_of_mem_head? hu)), ← Nat.not_le,
        TermRec.group_le_heard hheard] at hgroup
      cases hh : (s.term u).heard <;> rw [hh] at hgroup <;> simp at hgroup ⊢ <;> omega

end Sys2Proof.Machine
end

section
/-! What the ends of a mark leave: the ramp ticks (R106 to R108) and the timeouts (R118), and a frame mark on the jobs in
SETTLE and VERIFY (R30, R106, R109). -/

namespace Sys2Proof.Machine

/-- A message is a POWER. -/
def OutMsg.isPower : OutMsg → Bool
  | .power _ _ _ => true
  | _ => false

theorem State.setJob_worker_same {s : State} {e : EngineId} {j : Job} (h : s.worker e = some j.term) (f : EngineId) :
    (s.setJob e (some j)).worker f = s.worker f := by
  rw [State.setJob_worker]
  split
  · next hf => rw [hf, h]; rfl
  · rfl

/-! ### Ramp ticks -/

section Tick

variable {s : State} {e f : EngineId} {t : TermId} {v : Nat}

theorem State.requestPower_job_ne (h : s.engineOf t ≠ some f) : (s.requestPower t v).job f = s.job f := by
  by_cases hg : ((s.term t).completed s.lastFrame).grants v
  · rw [State.requestPower_issued s t hg, State.noteCommand_job]
    exact if_neg h
  · rw [State.requestPower_refused s t v hg]
    rfl

theorem State.requestPower_sends (s : State) (t : TermId) (v : Nat) :
    ∃ sent, (s.requestPower t v).outbox = s.outbox ++ sent ∧ ∀ m ∈ sent, m.isPower = true := by
  by_cases hg : ((s.term t).completed s.lastFrame).grants v
  · exact ⟨_, (s.requestPower_granted t v hg).2.2, by simp [OutMsg.isPower]⟩
  · refine ⟨[], ?_, nofun⟩
    rw [State.requestPower_refused s t v hg, List.append_nil]
    rfl

theorem State.rampStep_cases (s : State) (e : EngineId) (j : Job) (target step : Nat) (dir : StepDir) (d : Nat) :
    ∃ v j', s.rampStep e j target step dir d = (s.requestPower j.term v).setJob e (some j') ∧ j'.term = j.term := by
  unfold State.rampStep
  dsimp only
  split
  · exact ⟨_, _, rfl, rfl⟩
  · exact ⟨_, _, rfl, rfl⟩

/-- A ramp tick writes the job of its engine, after the completion of a command and one request (R107, R108). -/
theorem State.rampTick_cases (s : State) (e : EngineId) (j : Job) (rp : Ramp) :
    ∃ x j', s.rampTick e j rp = x.setJob e (some j') ∧ j'.term = j.term ∧
      (x = s ∨ x = s.complete j.term ∨ ∃ v, x = (s.complete j.term).requestPower j.term v) := by
  unfold State.rampTick
  dsimp only
  split
  · exact ⟨_, _, rfl, rfl, .inl rfl⟩
  · split
    · exact ⟨_, _, rfl, rfl, .inr (.inl rfl)⟩
    · obtain ⟨v, j', hstep, hterm⟩ := (s.complete j.term).rampStep_cases e j (s.rampTarget j.term) _ _ _
      exact ⟨_, j', hstep, hterm, .inr (.inr ⟨v, rfl⟩)⟩

/-- A tick of an engine is nothing, or a ramp tick of its job (R106). -/
theorem State.tickIfDue_cases (s : State) (e : EngineId) :
    s.tickIfDue e = s ∨
      ∃ j rp, s.job e = some j ∧ j.phase = .settle ∧ j.ramp = some rp ∧ rp.tick = 0 ∧ s.tickIfDue e = s.rampTick e j rp := by
  unfold State.tickIfDue
  split
  · exact .inl rfl
  · next j hj =>
    split
    · next rp hp hr =>
      split
      · next htick => exact .inr ⟨j, rp, hj, hp, hr, htick, rfl⟩
      · exact .inl rfl
    · exact .inl rfl

theorem State.tickIfDue_worker (s : State) (e f : EngineId) : (s.tickIfDue e).worker f = s.worker f := by
  rcases s.tickIfDue_cases e with h | ⟨j, rp, hj, -, -, -, h⟩
  · rw [h]
  · obtain ⟨x, j', htick, hterm, hx⟩ := s.rampTick_cases e j rp
    have hworker : ∀ f, x.worker f = s.worker f := fun f => by
      rcases hx with rfl | rfl | ⟨v, rfl⟩
      · rfl
      · rfl
      · exact State.requestPower_worker ..
    rw [h, htick, State.setJob_worker_same (by rw [hworker, hterm]; exact State.worker_of_job hj), hworker]

/-- A tick of an engine leaves another engine's job, where the two hold two terminals. -/
theorem State.tickIfDue_job_ne (hf : f ≠ e) (hne : s.worker e ≠ s.worker f) : (s.tickIfDue e).job f = s.job f := by
  rcases s.tickIfDue_cases e with h | ⟨j, rp, hj, -, -, -, h⟩
  · rw [h]
  · obtain ⟨x, j', htick, -, hx⟩ := s.rampTick_cases e j rp
    rw [h, htick, State.setJob_job_ne _ _ hf]
    rcases hx with rfl | rfl | ⟨v, rfl⟩
    · rfl
    · rfl
    · refine State.requestPower_job_ne fun hengine => hne ?_
      obtain ⟨i, hi, hterm⟩ := State.job_of_engineOf (s := s) hengine
      rw [State.worker_of_job hj, State.worker_of_job hi, hterm]

theorem State.tickIfDue_sends (s : State) (e : EngineId) :
    ∃ sent, (s.tickIfDue e).outbox = s.outbox ++ sent ∧ ∀ m ∈ sent, m.isPower = true := by
  rcases s.tickIfDue_cases e with h | ⟨j, rp, -, -, -, -, h⟩
  · exact ⟨[], by rw [h, List.append_nil], nofun⟩
  · obtain ⟨x, j', htick, -, hx⟩ := s.rampTick_cases e j rp
    rw [h, htick, State.setJob_outbox]
    rcases hx with rfl | rfl | ⟨v, rfl⟩
    · exact ⟨[], (List.append_nil _).symm, nofun⟩
    · exact ⟨[], (List.append_nil _).symm, nofun⟩
    · exact (s.complete j.term).requestPower_sends j.term v

end Tick

/-! ### Timeouts -/

section Timeout

variable {s : State} {e : EngineId} {j : Job} {o : Option Response}

theorem State.exhaust_job (s : State) (e : EngineId) (j : Job) (f : EngineId) :
    (s.exhaust e j).job f = if f = e then none else s.job f := by
  unfold State.exhaust
  dsimp only
  rw [State.setJob_job]
  split
  · rfl
  · split <;> split <;> simp

theorem State.exhaust_outbox (h : j.phase.admitted = false) : (s.exhaust e j).outbox = s.outbox := by
  unfold State.exhaust
  dsimp only
  rw [if_neg (by simp [h] : ¬ j.phase.admitted = true), State.setJob_outbox]
  split
  · exact arbKept_outbox (State.transition_arbKept ..)
  · exact arbKept_outbox (State.transition_arbKept ..)

/-- The end of CONFIRM writes the job of its engine after the ADMIT (R100, R105). -/
theorem State.endConfirm_cases (s : State) (e : EngineId) (j : Job) (p fu : Nat) :
    ∃ r v j', s.endConfirm e j p fu = ((s.setTerm j.term r).admitTerm j.term v).setJob e (some j') := by
  unfold State.endConfirm
  dsimp only
  exact ⟨_, _, _, State.beginSettle_eq _ e j _ _ rfl⟩

/-- What an event does to the jobs where it takes none up: a job past its search with no poll in flight stays, an idle engine
stays idle, and the event triggers an evaluation exactly where an engine becomes idle. -/
structure Work.Drops (s : State) (w : Work) : Prop where
  rests : ∀ f i, s.job f = some i → i.phase.searching = false → i.pollInFlight = none → w.st.job f = some i
  idle : ∀ f, s.job f = none → w.st.job f = none
  due : w.due = true ↔ ∃ f, (s.job f).isSome = true ∧ w.st.job f = none
  sends : ∃ sent, w.st.outbox = s.outbox ++ sent ∧ ∀ m ∈ sent, m.isPower = false

namespace Work.Drops

theorem quiet {v : State} (hjob : v.engines = s.engines) (hout : v.outbox = s.outbox) : Drops s (.quiet v) := by
  have hjob : ∀ f, v.job f = s.job f := State.job_congr hjob
  refine ⟨fun f i hi _ _ => (hjob f).trans hi, fun f hf => (hjob f).trans hf, ?_, [], by simpa [Work.quiet] using hout, nofun⟩
  simp only [Work.quiet, hjob, Bool.false_eq_true, false_iff, not_exists, not_and]
  intro f hsome hnone
  simp [hnone] at hsome

/-- A job written in place of a job that searches. -/
theorem writes {v : State} {j' : Job} (hj : s.job e = some j) (hjob : ∀ f, v.job f = if f = e then some j' else s.job f)
    (hrest : j.phase.searching = false → j.pollInFlight = none → j' = j)
    (hout : ∃ sent, v.outbox = s.outbox ++ sent ∧ ∀ m ∈ sent, m.isPower = false) : Drops s (.quiet v) := by
  refine ⟨fun f i hi hp hpoll => ?_, fun f hf => ?_, ?_, hout⟩
  · rw [Work.quiet, hjob]
    split
    · next hfe =>
      subst hfe
      obtain rfl := Option.some.inj (hi.symm.trans hj)
      rw [hrest hp hpoll]
    · exact hi
  · rw [Work.quiet, hjob]
    split
    · next hfe => rw [hfe, hj] at hf; cases hf
    · exact hf
  · simp only [Work.quiet, hjob, Bool.false_eq_true, false_iff, not_exists, not_and]
    intro f hsome
    split
    · nofun
    · exact fun hnone => by simp [hnone] at hsome

end Work.Drops

/-- The end of CONFIRM is one job written and one ADMIT sent. -/
theorem State.endConfirm_drops {i : Job} (hj : s.job e = some i) (hsearch : i.phase.searching = true) (p fu : Nat) :
    Work.Drops s (.quiet (s.endConfirm e j p fu)) := by
  obtain ⟨r, v, j', hend⟩ := s.endConfirm_cases e j p fu
  obtain ⟨-, -, hout, hjobs⟩ := (s.setTerm j.term r).admitTerm_spec j.term v
  rw [hend]
  refine .writes (j' := j') hj (fun f => ?_) (fun h => by simp [hsearch] at h) ⟨_, (State.setJob_outbox ..).trans hout, ?_⟩
  · rw [State.setJob_job, hjobs f]
    rfl
  · simp [OutMsg.isPower]

/-- Exhaustion of a job in its search empties the engine and sends nothing (R101). -/
theorem State.exhaust_drops {i : Job} (hj : s.job e = some i) (hi : i.phase.searching = true)
    (hsearch : j.phase.admitted = false) : Work.Drops s (.trigger (s.exhaust e j)) := by
  refine ⟨fun f i' hi' hp _ => ?_, fun f hf => ?_, ?_, [], by simpa [Work.trigger] using State.exhaust_outbox hsearch, nofun⟩
  · rw [Work.trigger, State.exhaust_job, if_neg]
    · exact hi'
    · rintro rfl
      rw [Option.some.inj (hi'.symm.trans hj), hi] at hp
      cases hp
  · rw [Work.trigger, State.exhaust_job]
    split
    · rfl
    · exact hf
  · exact iff_of_true rfl ⟨e, by rw [hj]; rfl, (s.exhaust_job e j e).trans (if_pos rfl)⟩

/-- A search gate judged writes the job, ends its CONFIRM, or exhausts it (R97 to R101). -/
theorem State.judgeSearch_drops {i : Job} (hj : s.job e = some i) (hi : i.phase.searching = true)
    (hsearch : j.phase.admitted = false) (g : Gate) : Work.Drops s (s.judgeSearch e j g) := by
  have hwrites : ∀ j', Work.Drops s (.quiet (s.setJob e (some j'))) := fun j' =>
    .writes hj (fun f => State.setJob_job ..) (fun h => by simp [hi] at h) ⟨[], (List.append_nil _).symm, nofun⟩
  have hmissed : ∀ v, Work.Drops s (s.searchMissed e j g v) := fun v => by
    unfold State.searchMissed
    dsimp only
    split
    · refine State.exhaust_drops hj hi ?_
      unfold Job.raiseLimit
      split <;> exact hsearch
    · exact hwrites _
  unfold State.judgeSearch
  split
  · rcases Nat.eq_zero_or_pos (if j.phase = .confirm then j.confirmLeft - 1 else s.params.confirmCount - 1) with h | h
    · rw [State.searchAccepted_ends h]
      exact State.endConfirm_drops hj hi _ _
    · rw [State.searchAccepted_goes rfl h]
      exact hwrites _
  · exact hmissed _

/-- An outcome handed to a job is counted, or its gate is judged (R96). -/
theorem State.handOutcome_drops (hj : s.job e = some j) : Work.Drops s (s.handOutcome e j o) := by
  have hanswered : Work.Drops s (.quiet (s.setJob e (some { j with pollInFlight := none }))) :=
    .writes hj (fun f => State.setJob_job ..) (fun _ hpoll => by rw [← hpoll]) ⟨[], (List.append_nil _).symm, nofun⟩
  unfold State.handOutcome
  dsimp only
  split
  · exact hanswered
  · split
    · next hsearch =>
      split
      · refine State.judgeSearch_drops hj hsearch ?_ _
        cases hp : j.phase <;> simp [hp, Phase.searching, Phase.admitted] at hsearch ⊢
      · exact .writes hj (fun f => State.setJob_job ..) (fun h => by simp [hsearch] at h)
          ⟨[], (List.append_nil _).symm, nofun⟩
    · exact hanswered

/-- A timeout, whose outcome is SILENT (R118, R129). -/
theorem State.timeoutIfDue_drops (s : State) (k : PollTag) : Work.Drops s (s.timeoutIfDue k) := by
  have hfreed : Work.Drops s (.quiet (s.setPoll k none)) := .quiet rfl rfl
  unfold State.timeoutIfDue
  split
  · unfold State.takeOutcome
    split
    · exact .quiet rfl rfl
    · unfold State.matchOutcome
      split
      · unfold State.engineOutcome
        split
        · exact hfreed
        · split
          · exact hfreed
          · next j hj =>
            split
            · obtain ⟨hrests, hidle, hdue, hsends⟩ := State.handOutcome_drops (o := none) hj
              exact ⟨hrests, hidle, hdue, hsends⟩
            · exact hfreed
      · unfold State.sweepOutcome
        split
        · exact hfreed
        · split <;> exact hfreed
  · exact .quiet rfl rfl

end Timeout

/-! ### The ends of a mark, one after another -/

section Ends

variable {s : State} {e f : EngineId}

theorem State.expireBackoff_engines (s : State) (t : TermId) : (s.expireBackoff t).st.engines = s.engines := by
  unfold State.expireBackoff
  split
  · next hover =>
    dsimp only
    rw [State.join_setTerm_transition _ _ _ _ ((State.backoffOver_iff _ _).mp hover).1]
    exact State.rejoin_engines ..
  · rfl

/-- The expiries move no engine (R103). -/
theorem State.expireAll_engines (s : State) : s.expireAll.st.engines = s.engines := by
  have hfold : ∀ (l : List TermId) (w : Work),
      (l.foldl (fun (w : Work) t => w.andThen (fun s => s.expireBackoff t)) w).st.engines = w.st.engines := fun l => by
    induction l with
    | nil => exact fun _ => rfl
    | cons t l ih => exact fun w => (ih _).trans (State.expireBackoff_engines w.st t)
  exact hfold _ _

/-- A job whose tick is not due stays through the ticks, where the engines hold different terminals (R106). -/
theorem foldl_tickIfDue_job {j : Job} (hrest : ∀ rp, j.phase = .settle → j.ramp = some rp → rp.tick ≠ 0) (l : List EngineId) :
    ∀ s : State, s.job f = some j → (∀ e, e ≠ f → s.worker e ≠ some j.term) → (l.foldl State.tickIfDue s).job f = some j := by
  induction l with
  | nil => exact fun s hj _ => hj
  | cons e l ih =>
    intro s hj hothers
    refine ih _ ?_ fun e' he' => by rw [State.tickIfDue_worker]; exact hothers e' he'
    by_cases he : f = e
    · rcases s.tickIfDue_cases e with h | ⟨i, rp, hi, hp, hr, htick, -⟩
      · rw [h, hj]
      · rw [← he, hj] at hi
        obtain rfl := Option.some.inj hi
        exact absurd htick (hrest rp hp hr)
    · rw [State.tickIfDue_job_ne he (by rw [State.worker_of_job hj]; exact hothers e (Ne.symm he)), hj]

/-- The timeouts leave a job past its search (R118). -/
theorem foldl_timeoutIfDue_job {j : Job} (hp : j.phase.searching = false) (hpoll : j.pollInFlight = none) (l : List PollTag) :
    ∀ w : Work, w.st.job f = some j →
      (l.foldl (fun (w : Work) k => w.andThen (fun s => s.timeoutIfDue k)) w).st.job f = some j := by
  induction l with
  | nil => exact fun _ h => h
  | cons k l ih => exact fun w h => ih _ ((w.st.timeoutIfDue_drops k).rests f j h hp hpoll)

theorem State.tickAll_st (s : State) : s.tickAll.st = allEngines.foldl State.tickIfDue s.expireAll.st := by
  simp only [State.tickAll, Work.andThen, Work.quiet]

theorem State.freeSendOrder_job (s : State) (n m : Nat) (e : EngineId) : (s.freeSendOrder n m).job e = s.job e := rfl

/-- The ends of a mark leave a job past its search whose tick is not due. -/
theorem State.markEnds_job {j : Job} (hc : s.Placed True) (hj : s.job f = some j) (hp : j.phase.searching = false)
    (hpoll : j.pollInFlight = none) (hrest : ∀ rp, j.phase = .settle → j.ramp = some rp → rp.tick ≠ 0) :
    s.markEnds.st.job f = some j := by
  have hengines := s.expireAll_engines
  have hticked : s.tickAll.st.job f = some j := by
    rw [State.tickAll_st]
    refine foldl_tickIfDue_job hrest allEngines _ ((State.job_congr hengines f).trans hj) fun e he hworker => he ?_
    rw [State.worker_congr hengines] at hworker
    exact (s.nodup_workers.mp hc.workers.1) e f _ hworker (State.worker_of_job hj)
  rw [State.markEnds_st, State.freeSendOrder_job]
  exact foldl_timeoutIfDue_job hp hpoll allTags _ hticked

/-! ### The allocation -/

theorem State.pollEngine_job_ne {slot : Nat} (h : f ≠ e) : (s.pollEngine e slot).job f = s.job f := by
  unfold State.pollEngine
  split
  · rw [State.issuePoll_eq]
    exact State.setJob_job_ne s _ h
  · rfl

theorem State.pollEngines_job_ne (l : List EngineId) (h : f ∉ l) : ∀ (s : State) (slot : Nat),
    (s.pollEngines slot l).job f = s.job f := by
  induction l with
  | nil => exact fun _ _ => rfl
  | cons e l ih =>
    obtain ⟨hne, hl⟩ := not_or.mp (mt List.mem_cons.mpr h)
    exact fun s slot => (ih hl _ _).trans (State.pollEngine_job_ne hne)

/-- The allocation writes the jobs that search only (R120). -/
theorem State.allocate_job {j : Job} (hj : s.job f = some j) (hp : j.phase.searching = false) (slots : Nat) :
    (s.allocate slots).job f = some j := by
  have hneeds : f ∉ s.pollOrder := fun hmem => by
    have hfilter := (sortRanked_perm _ _).mem_iff.mp (show f ∈ s.pollOrder from hmem)
    have hneed := (List.mem_filter.mp hfilter).2
    simp [State.needsPoll, hj, hp] at hneed
  have hpolled : (s.pollEngines 0 (s.pollOrder.take (s.usableSlots slots))).job f = some j :=
    (State.pollEngines_job_ne _ (fun h => hneeds (List.mem_of_mem_take h)) s 0).trans hj
  unfold State.allocate
  dsimp only
  split
  · exact (State.job_congr (State.pollSweep_kept_records ..).2.1 f).trans hpolled
  · exact hpolled

end Ends

/-! ### A mark on an admitted job -/

theorem State.countMark_job (s : State) (slip : Bool) (n : FrameNo) (e : EngineId) :
    (s.countMark slip n).job e = (s.job e).map (fun j => (if slip then j.slipped n else j).countMark) := mapPlaces_get ..

/-- A mark leaves an admitted job, but for its counts (R106, R149). -/
theorem State.frameMark_job {s : State} {n : FrameNo} {slots : Nat} {e : EngineId} {j j' : Job} (hc : CollectionsLaw s)
    (hj : s.job e = some j) (hj' : j' = (if s.isSlip n then j.slipped n else j).countMark) (hp : j'.phase.searching = false)
    (hpoll : j'.pollInFlight = none) (hrest : ∀ rp, j'.phase = .settle → j'.ramp = some rp → rp.tick ≠ 0) :
    (s.frameMark n slots).job e = some j' := by
  have hplaced : ((s.acceptMark n).countMark (s.isSlip n) n).Placed True :=
    State.countMark_placed _ _ ((collectionsLaw_iff (s.acceptMark n)).mp hc)
  have hcounted : ((s.acceptMark n).countMark (s.isSlip n) n).job e = some j' := by
    rw [State.countMark_job, hj']
    exact congrArg _ hj
  exact State.allocate_job (Work.close_keepsAdmitted _ _ _ (State.markEnds_job hplaced hcounted hp hpoll hrest) hp) hp _

theorem Job.slipped_settle {j : Job} (h : j.phase = .settle) (n : FrameNo) :
    j.slipped n = { j with admitFrame := j.admitFrame.map (pulledBack n), cmdFrame := some n } := by
  unfold Job.slipped
  rw [h]

theorem Job.slipped_verify {j : Job} (h : j.phase = .verify) (n : FrameNo) :
    j.slipped n = { j with
      gate := j.gate.map (fun g => { g with countFrom := g.countFrom.map (pulledBack n) }), cmdFrame := some n } := by
  unfold Job.slipped
  rw [h]

/-- A frame pulled back, as the statements say it (R30, R61, R109). -/
theorem pulledBack_eq {n : FrameNo} {pull : FrameNo → FrameNo}
    (h : ∀ f, pull f = if 1 ≤ (f - n).toNat ∧ (f - n).toNat ≤ 32767 then n else f) : pulledBack n = pull := by
  funext f
  rw [h]
  unfold pulledBack
  simp only [earlier_iff]

theorem State.isSlip_iff (s : State) (n : FrameNo) : s.isSlip n = true ↔ ¬ n = s.lastFrame + 1 := decide_eq_true_iff

/-- A job after the counts of a mark, by its slip. -/
theorem Job.counted_eq {s : State} {n : FrameNo} {j still slipped : Job} (hs : j.countMark = still)
    (hm : (j.slipped n).countMark = slipped) :
    (if s.isSlip n then j.slipped n else j).countMark = if n = s.lastFrame + 1 then still else slipped := by
  by_cases hn : n = s.lastFrame + 1
  · rw [if_neg (mt (s.isSlip_iff n).mp (not_not.mpr hn)), if_pos hn, hs]
  · rw [if_pos ((s.isSlip_iff n).mpr hn), if_neg hn, hm]

/-- Settles O33: the counts write the job, and nothing else of a mark does. -/
theorem frameMarkOnJobs : Obligations.FrameMarkOnJobs := by
  intro n slots s hc
  refine ⟨s.mlHunt.frameMark n slots.toNat, rfl, fun e j pull hj hpoll hpull =>
    ⟨fun rp hp hr htick => ?_, fun hp hr => ?_⟩⟩
  · have hslipped := Job.slipped_settle hp n
    rw [pulledBack_eq hpull] at hslipped
    refine State.frameMark_job (s := s.mlHunt) hc hj
      (Job.counted_eq (s := s.mlHunt) (by simp [Job.countMark, hr]) (by simp [hslipped, Job.countMark, hr])).symm ?_ ?_ ?_
    · split <;> exact congrArg Phase.searching hp
    · split <;> exact hpoll
    · intro rp' _ hrp
      have htick' : rp' = { rp with tick := rp.tick - 1 } := by split at hrp <;> exact (Option.some.inj hrp).symm
      rw [htick']
      exact Nat.sub_ne_zero_of_lt htick
  · have hslipped := Job.slipped_verify hp n
    rw [pulledBack_eq hpull] at hslipped
    refine State.frameMark_job (s := s.mlHunt) hc hj
      (Job.counted_eq (s := s.mlHunt) (by rw [Job.countMark, hr, Option.map_none, ← hr])
        (by rw [hslipped, Job.countMark]; simp only [hr, Option.map_none])).symm ?_ ?_ ?_
    · split <;> exact congrArg Phase.searching hp
    · split <;> exact hpoll
    · intro rp' hsettle _
      have hverify : Phase.verify = Phase.settle := by split at hsettle <;> exact hp.symm.trans hsettle
      cases hverify

end Sys2Proof.Machine
end

section
/-! A frame mark as its counts, the rows of its ends, one evaluation and the slots (R57, R61, R103, R106, R118, R137, R148,
R149). The rows run under HOLD on a state whose queue holds them: the ends do not read HOLD, the queue of commands nor
preempt-pending, so that they commute with writing those three. -/

namespace Sys2Proof.Machine

/-! ### The ends commute with HOLD, the commands waiting and preempt-pending -/

/-- A state with another HOLD, other commands waiting and another preempt-pending flag. -/
def State.aside (s : State) (hold : Bool) (pending : List Instr) (flag : Bool) : State :=
  { s with hold := hold, pending := pending, preemptPending := flag }

def Work.aside (w : Work) (hold : Bool) (pending : List Instr) (flag : Bool) : Work :=
  ⟨w.st.aside hold pending flag, w.due⟩

section Aside

variable (s : State) (hold : Bool) (pending : List Instr) (flag : Bool)

theorem State.aside_term (t : TermId) : (s.aside hold pending flag).term t = s.term t := rfl
theorem State.aside_job (e : EngineId) : (s.aside hold pending flag).job e = s.job e := rfl
theorem State.aside_poll (k : PollTag) : (s.aside hold pending flag).poll k = s.poll k := rfl
theorem State.aside_params : (s.aside hold pending flag).params = s.params := rfl

theorem State.transition_aside (t : TermId) (a b : TermState) :
    (s.aside hold pending flag).transition t a b = (s.transition t a b).aside hold pending flag := by
  unfold State.transition
  by_cases h : (s.term t).state = a
  · rw [if_pos h, if_pos (by exact h)]
    rfl
  · rw [if_neg h, if_neg (by exact h)]

theorem State.writeProfiles_aside (t : TermId) (up down : Nat) :
    (s.aside hold pending flag).writeProfiles t up down = (s.writeProfiles t up down).aside hold pending flag := by
  rw [State.writeProfiles_eq, State.writeProfiles_eq]
  rfl

theorem State.noteCommand_aside (t : TermId) (f : FrameNo) :
    (s.aside hold pending flag).noteCommand t f = (s.noteCommand t f).aside hold pending flag := by
  have hengine : (s.aside hold pending flag).engineOf t = s.engineOf t := rfl
  unfold State.noteCommand
  rw [hengine]
  split
  · rfl
  · simp only [State.aside_job]
    split
    · rfl
    · split <;> rfl

theorem State.requestPower_aside (t : TermId) (v : Nat) :
    (s.aside hold pending flag).requestPower t v = (s.requestPower t v).aside hold pending flag := by
  by_cases h : ((s.term t).completed s.lastFrame).grants v
  · rw [State.requestPower_issued s t h, State.requestPower_issued (s.aside hold pending flag) t h,
      ← State.noteCommand_aside]
    rfl
  · rw [State.requestPower_refused s t v h, State.requestPower_refused (s.aside hold pending flag) t v h]
    rfl

theorem State.rampStep_aside (e : EngineId) (j : Job) (target step : Nat) (dir : StepDir) (d : Nat) :
    (s.aside hold pending flag).rampStep e j target step dir d =
      (s.rampStep e j target step dir d).aside hold pending flag := by
  unfold State.rampStep
  simp only [State.aside_term, State.aside_params, State.requestPower_aside]
  split <;> rfl

theorem State.rampTick_aside (e : EngineId) (j : Job) (rp : Ramp) :
    (s.aside hold pending flag).rampTick e j rp = (s.rampTick e j rp).aside hold pending flag := by
  have htarget : (s.aside hold pending flag).rampTarget j.term = s.rampTarget j.term := rfl
  have hcomplete : (s.aside hold pending flag).complete j.term = (s.complete j.term).aside hold pending flag := rfl
  unfold State.rampTick
  simp only [State.aside_term, State.aside_params, htarget, hcomplete, State.rampStep_aside]
  split
  · rfl
  · split <;> rfl

theorem State.tickIfDue_aside (e : EngineId) :
    (s.aside hold pending flag).tickIfDue e = (s.tickIfDue e).aside hold pending flag := by
  unfold State.tickIfDue
  simp only [State.aside_job, State.rampTick_aside]
  split
  · rfl
  · split
    · split <;> rfl
    · rfl

theorem State.rejoin_aside (t : TermId) (r : TermRec) :
    (s.aside hold pending flag).rejoin t r = (s.rejoin t r).aside hold pending flag := by
  rw [State.rejoin_eq, State.rejoin_eq]
  rfl

theorem State.expireBackoff_aside (t : TermId) :
    (s.aside hold pending flag).expireBackoff t = (s.expireBackoff t).aside hold pending flag := by
  have hover : (s.aside hold pending flag).backoffOver t = s.backoffOver t := rfl
  unfold State.expireBackoff
  rw [hover]
  split
  · next h =>
    have hst := ((State.backoffOver_iff _ _).mp h).1
    dsimp only
    rw [State.transition_aside, State.aside_term, State.join_setTerm_transition _ _ _ _ hst, ← State.transition_aside,
      State.join_setTerm_transition (s.aside hold pending flag) _ _ _ hst, State.rejoin_aside]
    rfl
  · rfl

theorem State.exhaust_aside (e : EngineId) (j : Job) :
    (s.aside hold pending flag).exhaust e j = (s.exhaust e j).aside hold pending flag := by
  have hset : ∀ (x : State) (t : TermId) (r : TermRec),
      (x.aside hold pending flag).setTerm t r = (x.setTerm t r).aside hold pending flag := fun _ _ _ => rfl
  have hsend : ∀ (x : State) (m : OutMsg),
      (x.aside hold pending flag).send m = (x.send m).aside hold pending flag := fun _ _ => rfl
  have hjob : ∀ (x : State) (o : Option Job),
      (x.aside hold pending flag).setJob e o = (x.setJob e o).aside hold pending flag := fun _ _ => rfl
  unfold State.exhaust
  simp only [State.aside_term, hset, hsend]
  split <;> simp only [State.aside_term, State.aside_params, State.transition_aside, hset] <;> split <;> rfl

theorem State.endConfirm_aside (e : EngineId) (j : Job) (p fu : Nat) :
    (s.aside hold pending flag).endConfirm e j p fu = (s.endConfirm e j p fu).aside hold pending flag := by
  have hset : ∀ (x : State) (t : TermId) (r : TermRec),
      (x.aside hold pending flag).setTerm t r = (x.setTerm t r).aside hold pending flag := fun _ _ _ => rfl
  have hbegin : ∀ (x : State) (f : FrameNo),
      (x.aside hold pending flag).beginSettle e j f = (x.beginSettle e j f).aside hold pending flag := fun x f => by
    rw [State.beginSettle_eq _ _ _ _ _ rfl, State.beginSettle_eq _ _ _ _ _ rfl]
    rfl
  have hadmit : ∀ (x : State) (v : Nat),
      (x.aside hold pending flag).admitTerm j.term v = (x.admitTerm j.term v).aside hold pending flag := fun x v => by
    unfold State.admitTerm
    dsimp only
    rw [State.writeProfiles_eq, State.writeProfiles_eq]
    rfl
  have heffect : ∀ x : State, (x.aside hold pending flag).effectFrame = x.effectFrame := fun _ => rfl
  unfold State.endConfirm
  simp only [State.aside_term, hset, hadmit, heffect, hbegin]

theorem State.judgeSearch_aside (e : EngineId) (j : Job) (g : Gate) :
    (s.aside hold pending flag).judgeSearch e j g = (s.judgeSearch e j g).aside hold pending flag := by
  have haccepted : ∀ p fu, (s.aside hold pending flag).searchAccepted e j p fu =
      (s.searchAccepted e j p fu).aside hold pending flag := fun p fu => by
    rcases Nat.eq_zero_or_pos (if j.phase = .confirm then j.confirmLeft - 1 else s.params.confirmCount - 1) with h | h
    · rw [State.searchAccepted_ends h, State.searchAccepted_ends (s := s.aside hold pending flag) h, State.endConfirm_aside]
    · rw [State.searchAccepted_goes rfl h, State.searchAccepted_goes (s := s.aside hold pending flag) rfl h]
      rfl
  have hmissed : ∀ v, (s.aside hold pending flag).searchMissed e j g v =
      (s.searchMissed e j g v).aside hold pending flag := fun v => by
    unfold State.searchMissed
    dsimp only
    rw [apply_ite (Work.aside · hold pending flag), State.exhaust_aside]
    rfl
  unfold State.judgeSearch
  simp only [State.aside_params, State.aside_term, haccepted, hmissed]
  split <;> rfl

theorem State.handOutcome_aside (e : EngineId) (j : Job) (o : Option Response) :
    (s.aside hold pending flag).handOutcome e j o = (s.handOutcome e j o).aside hold pending flag := by
  unfold State.handOutcome
  simp only [State.judgeSearch_aside]
  split
  · rfl
  · split
    · split <;> rfl
    · rfl

theorem State.timeoutIfDue_aside (k : PollTag) :
    (s.aside hold pending flag).timeoutIfDue k = (s.timeoutIfDue k).aside hold pending flag := by
  have hfree : (s.aside hold pending flag).setPoll k none = (s.setPoll k none).aside hold pending flag := rfl
  unfold State.timeoutIfDue State.takeOutcome State.matchOutcome State.engineOutcome State.sweepOutcome
  simp only [State.aside_poll, hfree, State.aside_job, State.aside_term, State.handOutcome_aside]
  split
  · split
    · rfl
    · split
      · split
        · rfl
        · split
          · rfl
          · split <;> rfl
      · split
        · rfl
        · split <;> rfl
  · rfl

end Aside

/-! ### The rows of the ends, run one after another -/

/-- The work of a row that ends an operation of a mark (R103, R106, R118). -/
def State.endRow (s : State) : Instr → Work
  | .backoffExpiry t => s.expireBackoff t
  | .rampTick e => .quiet (s.tickIfDue e)
  | .pollTimeout k => s.timeoutIfDue k
  | _ => .quiet s

/-- The commands that end an operation of a mark. -/
def endsOperation : Instr → Bool
  | .backoffExpiry _ | .rampTick _ | .pollTimeout _ => true
  | _ => false

/-- Under HOLD the end of an event only re-examines the flag (R80, R89). -/
theorem Work.close_held {w : Work} (h : w.st.hold = true) : w.close = w.st.reexamine := by
  unfold Work.close
  rw [State.evaluate_skipped _ (.inl h), ite_self]

/-- A row of a mark's ends run under HOLD is its work, but for preempt-pending. -/
theorem exec_endRow {i : Instr} (h : endsOperation i = true) (s : State) (pending : List Instr) (flag : Bool) :
    ∃ flag', exec i (s.aside true pending flag) = .next ((s.endRow i).st.aside true pending flag') := by
  have hclose : ∀ w : Work, (w.aside true pending flag).close = w.st.aside true pending w.st.preemptBlocked := fun w =>
    Work.close_held rfl
  cases i with
  | backoffExpiry t =>
    by_cases hover : s.backoffOver t = true
    · refine ⟨(s.expireBackoff t).st.preemptBlocked, congrArg Host.Outcome.next ((if_pos hover).trans ?_)⟩
      rw [State.expireBackoff_aside]
      exact hclose _
    · refine ⟨flag, congrArg Host.Outcome.next ((if_neg hover).trans ?_)⟩
      show _ = (s.expireBackoff t).st.aside true pending flag
      unfold State.expireBackoff
      rw [if_neg hover]
      rfl
  | rampTick e => exact ⟨flag, congrArg Host.Outcome.next (s.tickIfDue_aside true pending flag e)⟩
  | pollTimeout k =>
    by_cases hdue : (s.poll k).any (fun p => p.countdown = 0) = true
    · refine ⟨(s.timeoutIfDue k).st.preemptBlocked, congrArg Host.Outcome.next ((if_pos hdue).trans ?_)⟩
      rw [State.timeoutIfDue_aside]
      exact hclose _
    · refine ⟨flag, congrArg Host.Outcome.next ((if_neg hdue).trans ?_)⟩
      show _ = (s.timeoutIfDue k).st.aside true pending flag
      unfold State.timeoutIfDue
      rw [if_neg hdue]
      rfl
  | _ => cases h

/-- The work of rows, one after another. -/
def Work.endRows (w : Work) (rows : List Instr) : Work := rows.foldl (fun w i => w.andThen (fun s => s.endRow i)) w

theorem core_run_next {M : Host.Core} {s s' : M.State} (h : M.step s = .next s') (k : Nat) :
    M.run (k + 1) s = M.run k s' := by
  rw [Host.Core.run, h]

/-- Rows of a mark's ends run under HOLD, waiting in the queue, are their work. -/
theorem run_endRows (rows : List Instr) : ∀ (w : Work) (flag : Bool), (∀ i ∈ rows, endsOperation i = true) →
    ∃ flag', Host.Core.run Sys2Proof.core rows.length (w.st.aside true rows flag) =
      .next ((w.endRows rows).st.aside true [] flag') := by
  induction rows with
  | nil => exact fun w flag _ => ⟨flag, rfl⟩
  | cons i rows ih =>
    intro w flag hrows
    obtain ⟨mid, hexec⟩ := exec_endRow (hrows i (List.mem_cons_self ..)) w.st rows flag
    obtain ⟨flag', hrun⟩ := ih (w.andThen fun s => s.endRow i) mid fun i' hi' => hrows i' (List.mem_cons_of_mem i hi')
    exact ⟨flag',
      (core_run_next (M := Sys2Proof.core) (s := w.st.aside true (i :: rows) flag) hexec rows.length).trans hrun⟩

/-- The rows of a mark's ends, in the order of the model (log entry 15). -/
def endingRows (expired : List TermId) : List Instr :=
  expired.map Instr.backoffExpiry ++ [0, 1, 2, 3].map Instr.rampTick ++ [0, 1, 2, 3, 4, 5, 6, 7].map Instr.pollTimeout

theorem endingRows_end (expired : List TermId) : ∀ i ∈ endingRows expired, endsOperation i = true := by
  intro i hi
  simp only [endingRows, List.mem_append, List.mem_map] at hi
  rcases hi with (⟨t, -, rfl⟩ | ⟨e, -, rfl⟩) | ⟨k, -, rfl⟩ <;> rfl

/-- The ticks fold as works that trigger nothing. -/
theorem foldl_quiet_tick (l : List EngineId) : ∀ w : Work,
    l.foldl (fun (w : Work) e => w.andThen (fun s => Work.quiet (s.tickIfDue e))) w =
      ⟨l.foldl State.tickIfDue w.st, w.due⟩ := by
  induction l with
  | nil => exact fun _ => rfl
  | cons e l ih =>
    refine fun w => (ih _).trans ?_
    simp only [Work.andThen, Work.quiet, Bool.or_false, List.foldl_cons]

/-- The ends of a mark are their rows (R149). -/
theorem State.timeAll_rows (s : State) :
    s.timeAll = (Work.quiet s.expireLosses).endRows (endingRows s.expireLosses.expiring) := by
  unfold Work.endRows endingRows
  rw [List.foldl_append, List.foldl_append, List.foldl_map, List.foldl_map, List.foldl_map]
  unfold State.timeAll State.tickAll State.expireAll
  refine congrArg (fun w => List.foldl _ w allTags) ?_
  refine Eq.trans ?_ (foldl_quiet_tick allEngines _).symm
  simp only [Work.andThen, Work.quiet, Bool.or_false]
  rfl

/-! ### What the ends trigger and send -/

namespace Work.Drops

variable {s : State} {w : Work}

theorem andThen {f : State → Work} (h : Drops s w) (h' : Drops w.st (f w.st)) : Drops s (w.andThen f) := by
  obtain ⟨hrests, hidle, hdue, sent, hout, hsent⟩ := h
  obtain ⟨hrests', hidle', hdue', sent', hout', hsent'⟩ := h'
  refine ⟨fun e i hi hp hpoll => hrests' e i (hrests e i hi hp hpoll) hp hpoll, fun e he => hidle' e (hidle e he), ?_,
    sent ++ sent', ?_, ?_⟩
  · rw [Work.andThen, Bool.or_eq_true, hdue, hdue']
    constructor
    · rintro (⟨e, hsome, hnone⟩ | ⟨e, hsome, hnone⟩)
      · exact ⟨e, hsome, hidle' e hnone⟩
      · refine ⟨e, ?_, hnone⟩
        cases hjob : s.job e with
        | none => rw [hidle e hjob] at hsome; exact hsome
        | some j => rfl
    · rintro ⟨e, hsome, hnone⟩
      cases hjob : w.st.job e with
      | none => exact .inl ⟨e, hsome, hjob⟩
      | some j => exact .inr ⟨e, by rw [hjob]; rfl, hnone⟩
  · rw [Work.andThen, hout', hout, List.append_assoc]
  · intro m hm
    exact (List.mem_append.mp hm).elim (hsent m) (hsent' m)

theorem foldl {α : Type} {f : State → α → Work} (hf : ∀ s a, Drops s (f s a)) (l : List α) : ∀ {w : Work}, Drops s w →
    Drops s (l.foldl (fun (w : Work) a => w.andThen (fun s => f s a)) w) := by
  induction l with
  | nil => exact id
  | cons a l ih => exact fun h => ih (h.andThen (hf _ a))

end Work.Drops

section Ends

variable (s : State)

theorem State.expireBackoff_outbox (t : TermId) : (s.expireBackoff t).st.outbox = s.outbox := by
  unfold State.expireBackoff
  split
  · next h =>
    have hst := ((State.backoffOver_iff _ _).mp h).1
    dsimp only
    rw [State.join_setTerm_transition _ _ _ _ hst, State.rejoin_eq]
    rfl
  · rfl

/-- The expiries send nothing (R103). -/
theorem State.expireAll_outbox : s.expireAll.st.outbox = s.outbox := by
  have hfold : ∀ (l : List TermId) (w : Work),
      (l.foldl (fun (w : Work) t => w.andThen (fun s => s.expireBackoff t)) w).st.outbox = w.st.outbox := fun l => by
    induction l with
    | nil => exact fun _ => rfl
    | cons t l ih => exact fun w => (ih _).trans (w.st.expireBackoff_outbox t)
  exact hfold _ _

/-- Works one after another, told apart from the work they follow. -/
theorem foldl_andThen_from {α : Type} (f : State → α → Work) (l : List α) : ∀ w : Work,
    l.foldl (fun (w : Work) a => w.andThen (fun s => f s a)) w =
      w.andThen (fun s => l.foldl (fun (w : Work) a => w.andThen (fun s => f s a)) (Work.quiet s)) := by
  induction l with
  | nil => exact fun w => by simp [Work.andThen, Work.quiet]
  | cons a l ih =>
    intro w
    rw [List.foldl_cons, ih]
    refine Eq.trans ?_ (congrArg (fun x : Work => Work.mk x.st (w.due || x.due))
      (ih ((Work.quiet w.st).andThen (f · a))).symm)
    simp [Work.andThen, Work.quiet, Bool.or_assoc]

/-- An expiry asks for an evaluation (R80, R103). -/
theorem State.expireAll_due : s.expireAll.due = decide (s.expireLosses.expiring ≠ []) := by
  have hover : ∀ t ∈ s.expireLosses.expiring, s.expireLosses.backoffOver t = true := fun t ht =>
    (s.expireLosses.mem_expiring t).mp ht
  unfold State.expireAll
  cases hl : s.expireLosses.expiring with
  | nil => rfl
  | cons t l =>
    have hfirst : (s.expireLosses.expireBackoff t).due = true := by
      unfold State.expireBackoff
      rw [if_pos (hover t (hl ▸ List.mem_cons_self ..))]
      rfl
    rw [List.foldl_cons, foldl_andThen_from State.expireBackoff]
    simp [Work.andThen, Work.quiet, hfirst]

/-- The ticks send POWERs only (R108, R153). -/
theorem State.tickAll_sends : ∃ sent, s.tickAll.st.outbox = s.outbox ++ sent ∧ ∀ m ∈ sent, m.isPower = true := by
  have hfold : ∀ (l : List EngineId) (x : State),
      ∃ sent, (l.foldl State.tickIfDue x).outbox = x.outbox ++ sent ∧ ∀ m ∈ sent, m.isPower = true := fun l => by
    induction l with
    | nil => exact fun x => ⟨[], (List.append_nil _).symm, nofun⟩
    | cons e l ih =>
      intro x
      obtain ⟨sent, hout, hsent⟩ := x.tickIfDue_sends e
      obtain ⟨sent', hout', hsent'⟩ := ih (x.tickIfDue e)
      refine ⟨sent ++ sent', by rw [List.foldl_cons, hout', hout, List.append_assoc], fun m hm => ?_⟩
      exact (List.mem_append.mp hm).elim (hsent m) (hsent' m)
  obtain ⟨sent, hout, hsent⟩ := hfold allEngines s.expireAll.st
  rw [State.expireAll_outbox] at hout
  exact ⟨sent, by rw [State.tickAll_st, hout], hsent⟩

/-- The ticks leave every engine its terminal. -/
theorem State.tickAll_worker (e : EngineId) : s.tickAll.st.worker e = s.worker e := by
  have hfold : ∀ (l : List EngineId) (x : State), (l.foldl State.tickIfDue x).worker e = x.worker e := fun l => by
    induction l with
    | nil => exact fun _ => rfl
    | cons f l ih => exact fun x => (ih _).trans (x.tickIfDue_worker f e)
  rw [State.tickAll_st, hfold]
  exact State.worker_congr s.expireAll_engines e

/-- The timeouts of a mark, told apart from its expiries and ticks (R118). -/
theorem State.timeAll_drops :
    ∃ w, Work.Drops s.tickAll.st w ∧ s.timeAll.st = w.st ∧ s.timeAll.due = (s.tickAll.due || w.due) := by
  have hdrops : Work.Drops s.tickAll.st
      (allTags.foldl (fun (w : Work) k => w.andThen (fun s => s.timeoutIfDue k)) (Work.quiet s.tickAll.st)) :=
    .foldl State.timeoutIfDue_drops allTags (.quiet rfl rfl)
  refine ⟨_, hdrops, ?_⟩
  unfold State.timeAll
  rw [foldl_andThen_from State.timeoutIfDue]
  generalize allTags = tags
  exact ⟨rfl, rfl⟩

end Ends

/-! ### What the ends and the slots keep -/

theorem State.endRow_kept (s : State) (i : Instr) : (s.endRow i).st.kept = s.kept := by
  unfold State.endRow
  split
  · exact s.expireBackoff_kept _
  · exact s.tickIfDue_kept _
  · exact s.timeoutIfDue_kept _
  · rfl

theorem State.timeAll_kept (s : State) : s.timeAll.st.kept = s.kept := by
  have hrows : ∀ (rows : List Instr) (w : Work), (w.endRows rows).st.kept = w.st.kept := fun rows => by
    induction rows with
    | nil => exact fun _ => rfl
    | cons i rows ih => exact fun w => (ih _).trans (w.st.endRow_kept i)
  rw [State.timeAll_rows, hrows]
  rfl

theorem State.allocate_freeIndex (s : State) (slots : Nat) : (s.allocate slots).freeIndex = s.freeIndex := by
  have hengines : ∀ (l : List EngineId) (x : State) (slot : Nat), (x.pollEngines slot l).freeIndex = x.freeIndex := fun l => by
    induction l with
    | nil => exact fun _ _ => rfl
    | cons e l ih =>
      intro x slot
      refine (ih _ _).trans ?_
      unfold State.pollEngine
      split <;> rfl
  have hsweep : ∀ (n : Nat) (x : State) (slot : Nat), (x.pollSweep slot n).freeIndex = x.freeIndex := fun n => by
    induction n with
    | zero => exact fun _ _ => rfl
    | succ n ih =>
      intro x slot
      unfold State.pollSweep
      split
      · exact ih _ _
      · rfl
  unfold State.allocate
  dsimp only
  split
  · exact (hsweep _ _ _).trans (hengines _ _ _)
  · exact hengines _ _ _

/-- The end of an event does not read preempt-pending (R89). -/
theorem Work.close_flag (s : State) (flag due : Bool) :
    (⟨{ s with preemptPending := flag }, due⟩ : Work).close = (⟨s, due⟩ : Work).close :=
  calc (⟨{ s with preemptPending := flag }, due⟩ : Work).close
      = (⟨s.over { s with preemptPending := flag }, due⟩ : Work).close := rfl
    _ = (⟨s.over s, due⟩ : Work).close := by rw [Work.close_over, Work.close_over]; rfl
    _ = (⟨s, due⟩ : Work).close := rfl

/-! ### The counts -/

section Counts

variable (r : TermRec) (j : Job) (slip : Bool) (n : FrameNo)

theorem TermRec.effective_eq :
    r.effective = { r with pe := (r.pendingCmd.map PowerCmd.value).getD r.pe, pendingCmd := none } := by
  obtain ⟨_, _, _, _, _, _, _, _, _, _, pending, window, _, _, _, _, _, _, _, _, _, _, _, _⟩ := r
  cases pending <;> rfl

/-- The completion of R57, field by field. -/
theorem TermRec.completed_fields :
    r.completed n = { r with
      pe := if r.pendingCmd.filter (fun d => d.effect ≠ n) = none then (r.pendingCmd.map PowerCmd.value).getD r.pe else r.pe
      pendingCmd := r.pendingCmd.filter (fun d => d.effect ≠ n) } := by
  unfold TermRec.completed TermRec.atEffect
  rw [TermRec.effective_eq]
  obtain ⟨_, _, _, _, _, _, _, _, _, _, pending, window, _, _, _, _, _, _, _, _, _, _, _, _⟩ := r
  cases pending with
  | none => rfl
  | some c => by_cases hc : c.effect = n <;> simp [hc, Option.filter]

theorem TermRec.windowClosed_eq : r.windowClosed n = { r with ambigUntil := r.ambigUntil.filter (fun f => f ≠ n) } := by
  unfold TermRec.windowClosed
  obtain ⟨_, _, _, _, _, _, _, _, _, _, pending, window, _, _, _, _, _, _, _, _, _, _, _, _⟩ := r
  cases window with
  | none => rfl
  | some f => by_cases hf : f = n <;> simp [hf, Option.filter]

/-- A record after the counts of a mark and the Power Command Unit's work (R51, R57, R61, R103). -/
theorem TermRec.marked_eq {p : Option PowerCmd} {a : Option FrameNo}
    (hp : p = if slip then none else r.pendingCmd.filter (fun d => d.effect ≠ n))
    (ha : a = if slip then none else r.ambigUntil.filter (fun f => f ≠ n)) :
    (r.powerMark slip n).countMark = { r with
      holdOff := r.holdOff - 1, backoff := if r.state = .backoff then r.backoff - 1 else r.backoff
      pe := if p = none then (r.pendingCmd.map PowerCmd.value).getD r.pe else r.pe
      pendingCmd := p, ambigUntil := a } := by
  unfold TermRec.powerMark TermRec.slipped
  rw [TermRec.windowClosed_eq, TermRec.completed_fields, TermRec.effective_eq, hp, ha]
  cases slip <;> rfl

/-- A job after the counts of a mark and its slip (R28, R30, R61, R106, R109). -/
theorem Job.marked_eq :
    (if slip then j.slipped n else j).countMark = { j with
      ramp := j.ramp.map (fun rp => { rp with tick := rp.tick - 1 })
      admitFrame := if slip ∧ j.phase = .settle then j.admitFrame.map (pulledBack n) else j.admitFrame
      gate := if slip ∧ j.phase = .verify then j.gate.map (fun g => { g with countFrom := g.countFrom.map (pulledBack n) })
        else j.gate
      cmdFrame := if slip ∧ j.phase.searching = false then some n else j.cmdFrame } := by
  unfold Job.countMark Job.slipped
  cases slip with
  | false => simp
  | true => cases hp : j.phase <;> simp [hp, Phase.searching]

end Counts

/-! ### The ends of a mark, whole -/

section Whole

variable (s : State)

/-- What the ends of a mark send: the ticks' POWERs, then messages of the timeouts, which are none (R108, R153); and the order
in which they leave (log entry 8). -/
theorem State.markEnds_sends :
    ∃ powers admits sent, s.timeAll.st.outbox = s.outbox ++ (powers ++ admits) ∧
      s.markEnds.st.outbox = s.outbox ++ sent ∧ (∀ m ∈ powers, m.isPower = true) ∧ (∀ m ∈ admits, m.isPower = false) ∧
      sent.Perm (powers ++ admits) ∧ powers.Sublist sent := by
  obtain ⟨powers, hpowers, hpower⟩ := s.tickAll_sends
  obtain ⟨timed, ⟨-, -, -, admits, hadmits, hadmit⟩, htimed, -⟩ := s.timeAll_drops
  have hall : s.timeAll.st.outbox = s.outbox ++ (powers ++ admits) := by
    rw [htimed, hadmits, hpowers, List.append_assoc]
  have hfront : (s.timeAll.st.outbox.take s.tickAll.st.outbox.length).drop s.outbox.length = powers := by
    rw [htimed, hadmits, List.take_left, hpowers, List.drop_left]
  obtain ⟨sent, hmerged, hperm, hkeeps⟩ := s.timeAll.st.freeSendOrder_outbox s.outbox.length s.tickAll.st.outbox.length
    (by rw [hpowers, List.length_append]; exact Nat.le_add_right ..)
  rw [hall, List.drop_left] at hperm
  rw [hfront] at hkeeps
  rw [← State.markEnds_st, hall, List.take_left] at hmerged
  exact ⟨powers, admits, sent, hall, hmerged, hpower, hadmit, hperm, hkeeps⟩

theorem State.markEnds_due : s.markEnds.due = s.timeAll.due := by
  simp only [State.markEnds, State.timeAll, State.tickAll, State.expireAll, Work.andThen, Work.quiet, Bool.or_false]

/-- The ends of a mark write nothing in the freed order but the messages. -/
theorem State.markEnds_eq {sent : List OutMsg} (h : s.markEnds.st.outbox = s.outbox ++ sent) :
    s.markEnds = ⟨{ s.timeAll.st with outbox := s.outbox ++ sent }, s.timeAll.due⟩ := by
  rw [← h, ← State.markEnds_due, State.markEnds_st]
  exact congrArg (fun x => Work.mk x s.markEnds.due) s.markEnds_st

/-- The ends of a mark ask for an evaluation where a backoff expired or an engine became idle (R80). -/
theorem State.timeAll_due :
    s.timeAll.due = decide (s.expireLosses.expiring ≠ [] ∨ ∃ e, (s.job e).isSome = true ∧ s.timeAll.st.job e = none) := by
  obtain ⟨timed, ⟨-, -, hempties, -⟩, htimed, hdue⟩ := s.timeAll_drops
  have hticked : s.tickAll.due = decide (s.expireLosses.expiring ≠ []) := by
    rw [← State.expireAll_due]
    simp only [State.tickAll, Work.andThen, Work.quiet, Bool.or_false]
  have hsome : ∀ e, (s.tickAll.st.job e).isSome = (s.job e).isSome := fun e => by
    have hworker := congrArg Option.isSome (s.tickAll_worker e)
    simpa only [State.worker, Option.isSome_map] using hworker
  rw [Bool.eq_iff_iff, hdue, Bool.or_eq_true, hempties, hticked, htimed]
  simp only [hsome, decide_eq_true_eq]

end Whole

/-- Settles O3: the rows of the ends are the model's work on the counted state, which reads none of HOLD, the commands waiting
and preempt-pending; the evaluation they ask for closes the event, and the slots follow. -/
theorem frameMarkRunsItsEnds : Obligations.FrameMarkRunsItsEnds := by
  intro n slots s slip pull hslip hpull
  obtain ⟨y, hy⟩ : ∃ y, y = (s.mlHunt.acceptMark n).countMark slip n := ⟨_, rfl⟩
  obtain ⟨flag, hrun⟩ := run_endRows (endingRows y.expireLosses.expiring) (Work.quiet y.expireLosses) s.preemptPending
    (endingRows_end _)
  obtain ⟨powers, admits, sent, hall, hmerged, hpower, hadmit, hperm, hkeeps⟩ := y.markEnds_sends
  have hout : y.outbox = s.outbox := by rw [hy]; rfl
  have hends := y.markEnds_eq hmerged
  have hdue := y.timeAll_due
  have hkept := y.timeAll_kept
  rw [← State.timeAll_rows] at hrun
  rw [hout] at hall hends
  generalize y.timeAll = ends at *
  have hhold : ends.st.hold = s.hold := (kept_hold hkept).trans (by rw [hy]; rfl)
  have hpending : ends.st.pending = s.pending := (kept_pending hkept).trans (by rw [hy]; rfl)
  obtain ⟨c, hc⟩ : ∃ c, c = y.expireLosses.aside true (endingRows y.expireLosses.expiring) s.preemptPending := ⟨_, rfl⟩
  obtain ⟨w, hw⟩ : ∃ w, w = ends.st.aside true [] flag := ⟨_, rfl⟩
  have hdrop : w.outbox.drop s.outbox.length = powers ++ admits := by
    rw [hw]
    exact (congrArg (List.drop s.outbox.length) hall).trans List.drop_left
  have hclose : y.markEnds.close = Work.close ⟨{ w with hold := s.hold, pending := s.pending, outbox := s.outbox ++ sent },
      decide (y.expireLosses.expiring ≠ [] ∨ ∃ e, (c.job e).isSome = true ∧ w.job e = none)⟩ := by
    have hcalls : ends.due = decide (y.expireLosses.expiring ≠ [] ∨ ∃ e, (c.job e).isSome = true ∧ w.job e = none) := by
      rw [hdue, hc, hw]
      rfl
    rw [hends, ← hcalls, hw, ← hhold, ← hpending]
    exact (Work.close_flag { ends.st with outbox := s.outbox ++ sent } flag ends.due).symm
  refine ⟨c, w, _, y.expireLosses.expiring, sent, ?_, fun t => ⟨_, _, ?_, rfl, rfl⟩, fun e => ?_, fun k => ?_, ?_,
    fun t => ?_, ?_, ?_, ?_, ?_, rfl, ?_⟩
  · rw [hc, hy]
    rfl
  · rw [hc, hy]
    exact (State.countMark_term (s.mlHunt.acceptMark n) slip n t).trans (TermRec.marked_eq _ _ _ rfl rfl)
  · rw [hc, hy]
    refine (State.countMark_job (s.mlHunt.acceptMark n) slip n e).trans ?_
    simp only [Job.marked_eq, pulledBack_eq hpull]
    rfl
  · rw [hc, hy]
    exact mapPlaces_get ..
  · exact (sortRanked_perm _ _).nodup_iff.mpr ((List.nodup_finRange 64).filter _)
  · have hct : c.term t = y.expireLosses.term t := by rw [hc]; rfl
    rw [State.mem_expiring, hct]
    exact State.backoffOver_iff _ _
  · rw [hc, hw]
    exact hrun
  · rw [hdrop, hw]
    exact hall
  · rw [hdrop]
    exact hperm
  · rw [hdrop, List.filter_append, List.filter_eq_self.mpr, List.filter_eq_nil_iff.mpr, List.append_nil]
    · exact hkeeps
    · intro m hm
      have hkind := hadmit m hm
      cases m <;> simp_all [OutMsg.isPower]
    · intro m hm
      have hkind := hpower m hm
      cases m <;> simp_all [OutMsg.isPower]
  · show Host.Outcome.next (s.mlHunt.frameMark n slots.toNat) = _
    have hmark : (s.mlHunt.acceptMark n).countMark (s.mlHunt.isSlip n) n = y := by rw [hy, hslip]; rfl
    have hfree : y.markEnds.close.freeIndex = s.freeIndex := by
      rw [hends]
      exact (kept_freeIndex (Work.close_kept _)).trans ((kept_freeIndex hkept).trans (by rw [hy]; rfl))
    unfold State.frameMark
    dsimp only
    rw [hmark, State.allocate_freeIndex, hfree, hclose]

end Sys2Proof.Machine
end

section
/-! SET LADDER (R46), and the choice of profiles on an increasing ladder (R47 to R52). -/

namespace Sys2Proof.Machine

/-! ### SET LADDER -/

/-- Each clamped threshold of a body is the minimum with 240 (R46). -/
theorem ladderAt_at (body : List Byte) {p : Nat} (h : p < 8) : (ladderAt body).at p = min (numAt body p) 240 := by
  unfold ladderAt Ladder.at
  simp only [clampNat_zero]
  interval_cases p <;> rfl

theorem ladderAt_contents (body : List Byte) :
    (ladderAt body).contents =
      (List.range 8).map (fun i => byteOf (min (numAt body i) 240)) ++ [byteOf (min (numAt body 8) 40)] := by
  unfold ladderAt Ladder.contents
  simp only [clampNat_zero]
  rfl

/-- A ladder increases when each threshold is larger than the one before it (R45). -/
theorem Ladder.increasing_iff (l : Ladder) : l.increasing = true ↔ ∀ p, p < 7 → l.at p < l.at (p + 1) := by
  simp [Ladder.increasing]

/-- The clamped thresholds of a body increase (R46). -/
theorem ladderAt_increasing_iff (body : List Byte) :
    (ladderAt body).increasing = true ↔ ∀ i, i < 7 → min (numAt body i) 240 < min (numAt body (i + 1)) 240 := by
  rw [Ladder.increasing_iff]
  refine forall₂_congr fun i hi => ?_
  rw [ladderAt_at body (by omega), ladderAt_at body (by omega)]

/-- Settles O15: the clamped ladder increases, or it does not. -/
theorem setLadderChecksOrder : Obligations.SetLadderChecksOrder := by
  intro tag body s hb hl
  refine ⟨fun hrises => ⟨ladderAt body, .hunting, fun p hp => ladderAt_at body hp, clampNat_zero .., ?_⟩,
    fun ⟨i, hi, hfalls⟩ => ⟨.hunting, ?_⟩⟩
  · rw [← ladderAt_contents]
    exact exec_carried (k := .setLadder) hb hl (if_pos ((ladderAt_increasing_iff body).mpr hrises))
  · have hnot : ¬ (ladderAt body).increasing = true := fun h =>
      absurd ((ladderAt_increasing_iff body).mp h i hi) (Nat.not_lt.mpr hfalls)
    exact exec_replied (k := .setLadder) hb hl (if_neg hnot)

/-! ### The highest profile a margin holds -/

section Highest

variable (l : Ladder) (h : Nat) (margin : Int)

/-- The profile found is met, or none is and it counts as 0 (R48, R52). -/
theorem Ladder.highest_met :
    ((l.at ((l.highest h margin).getD 0) + h : Nat) : Int) ≤ margin ∨
      ((l.highest h margin).getD 0 = 0 ∧ margin < ((l.at 0 + h : Nat) : Int)) := by
  unfold Ladder.highest
  cases hf : List.find? _ [7, 6, 5, 4, 3, 2, 1, 0] with
  | none =>
    have hnone := List.find?_eq_none.mp hf 0 (by decide)
    exact .inr ⟨rfl, by simpa using hnone⟩
  | some p => exact .inl (by simpa using List.find?_some hf)

/-- No profile above the one found is met. -/
theorem Ladder.le_highest {q : Nat} (hq : q ≤ 7) (hmet : ((l.at q + h : Nat) : Int) ≤ margin) :
    q ≤ (l.highest h margin).getD 0 := by
  have hmem : q ∈ [7, 6, 5, 4, 3, 2, 1, 0] := by
    simp only [List.mem_cons, List.not_mem_nil, or_false]
    omega
  have hfalling : [7, 6, 5, 4, 3, 2, 1, 0].Pairwise (fun a b : Nat => b ≤ a) := by decide
  unfold Ladder.highest
  cases hf : List.find? _ [7, 6, 5, 4, 3, 2, 1, 0] with
  | none => exact absurd (decide_eq_true hmet) (List.find?_eq_none.mp hf q hmem)
  | some p =>
    obtain ⟨-, above, below, hsplit, habove⟩ := List.find?_eq_some_iff_append.mp hf
    rw [hsplit] at hmem hfalling
    rcases List.mem_append.mp hmem with hin | hin
    · have hfails := habove q hin
      rw [decide_eq_true hmet] at hfails
      cases hfails
    · rcases List.mem_cons.mp hin with rfl | hin
      · exact le_rfl
      · exact (List.pairwise_cons.mp (List.pairwise_append.mp hfalling).2.1).1 q hin

end Highest

/-! ### The serving update and the verdict -/

section Serve

variable {l : Ladder} {c holdOff : Nat} {margin : Int}

theorem Ladder.at_mono (hl : l.increasing = true) {p q : Nat} (hpq : p ≤ q) (hq : q ≤ 7) : l.at p ≤ l.at q := by
  induction q, hpq using Nat.le_induction with
  | base => exact le_rfl
  | succ q _ ih => exact (ih (by omega)).trans ((Ladder.increasing_iff l).mp hl q (by omega)).le

/-- On an increasing ladder some profile above is met exactly when the next one is (R49). -/
theorem mayUpgrade_iff (hl : l.increasing = true) :
    mayUpgrade l c margin holdOff = true ↔
      holdOff = 0 ∧ c < 7 ∧ ((l.at (c + 1) + l.hysteresis : Nat) : Int) ≤ margin := by
  have hseven : ∀ p : Nat, p ∈ [0, 1, 2, 3, 4, 5, 6, 7] ↔ p ≤ 7 := fun p => by
    simp only [List.mem_cons, List.not_mem_nil, or_false]
    omega
  unfold mayUpgrade
  simp only [Bool.and_eq_true, decide_eq_true_eq, List.any_eq_true, hseven]
  refine and_congr_right fun _ => ⟨fun ⟨p, hp, hc, hmet⟩ => ⟨by omega, ?_⟩, fun ⟨hc, hmet⟩ => ⟨c + 1, hc, by omega, hmet⟩⟩
  have hnext := l.at_mono hl (p := c + 1) (q := p) hc hp
  omega

/-- Below the threshold in force the profile falls to the highest the margin holds (R48). -/
theorem serveDirection_falls (h : margin < l.at c) :
    serveDirection l c margin holdOff = ((l.highest 0 margin).getD 0, false) := if_pos h

/-- At or above it the profile rises by one or stays (R49). -/
theorem serveDirection_holds (hl : l.increasing = true) (h : (l.at c : Int) ≤ margin) :
    serveDirection l c margin holdOff =
      if holdOff = 0 ∧ c < 7 ∧ ((l.at (c + 1) + l.hysteresis : Nat) : Int) ≤ margin then (c + 1, true)
      else (c, false) := by
  unfold serveDirection
  rw [if_neg (not_lt.mpr h)]
  exact if_congr (mayUpgrade_iff hl) rfl rfl

/-- A direction below floor, as the estimator tests it (R47). -/
theorem belowFloor_either {md mu : Int} {pc pmax : Nat} (h : md < l.at 0 ∨ (mu < l.at 0 ∧ pc = pmax)) :
    (belowFloorDown l md || belowFloorUp l mu pc pmax) = true := by
  simpa only [belowFloorDown, belowFloorUp, Bool.or_eq_true, Bool.and_eq_true, decide_eq_true_eq] using h

theorem servingVerdict_floor {r : TermRec} {md mu : Int} (h : md < l.at 0 ∨ (mu < l.at 0 ∧ r.pc = r.pmax)) :
    servingVerdict l r md mu = .floor := if_pos (belowFloor_either h)

end Serve

/-- Settles O51: the verdict by its two floors, the update by its threshold, the entry profile by the search for it. -/
theorem profileChoices : Obligations.ProfileChoices := by
  refine ⟨fun l r md mu => ⟨servingVerdict_floor, fun h => ?_⟩, fun l c holdOff margin hl hc =>
    ⟨fun hlow => ⟨_, serveDirection_falls hlow, Ladder.highest_getD_le .., l.highest_met 0 margin,
      fun q hq => l.le_highest 0 margin hq⟩, serveDirection_holds hl, Ladder.highest_getD_le .., l.highest_met _ margin,
      fun q hq => l.le_highest _ margin hq⟩⟩
  obtain ⟨hdown, hup⟩ := not_or.mp h
  unfold servingVerdict
  rw [belowFloor_neither hdown hup]
  rfl

end Sys2Proof.Machine
end

section
/-! A ramp tick of an engine whose countdown is spent: the target reached, a command pending, a POWER (R42, R105 to R108,
R111). -/

namespace Sys2Proof.Machine

/-! ### The completion, once more -/

/-- A command pending after the completion was pending before it, not due (R57). -/
theorem TermRec.completed_of_isSome {r : TermRec} {n : FrameNo} (h : (r.completed n).pendingCmd.isSome = true) :
    r.completed n = r := by
  unfold TermRec.completed at h ⊢
  split
  · next hdue => rw [if_pos hdue, TermRec.effective_eq] at h; cases h
  · rfl

theorem TermRec.completed_completed (r : TermRec) (n : FrameNo) : (r.completed n).completed n = r.completed n :=
  TermRec.completed_of_pending rfl

theorem State.complete_complete (s : State) (t : TermId) : (s.complete t).complete t = s.complete t := by
  have hterm : ((s.complete t).term t).completed (s.complete t).lastFrame = (s.term t).completed s.lastFrame := by
    rw [State.complete_term_self]
    exact TermRec.completed_completed _ _
  unfold State.complete at hterm ⊢
  rw [hterm, State.setTerm_setTerm]

/-- A request completes first, so that a completion before it changes nothing. -/
theorem State.complete_requestPower (s : State) (t : TermId) (v : Nat) :
    (s.complete t).requestPower t v = s.requestPower t v := by
  unfold State.requestPower
  rw [State.complete_complete]

/-! ### A step of the ramp -/

section Step

variable {s : State} {e : EngineId} {t : TermId} {r : TermRec} {p : Nat} {f : FrameNo}

/-- What an engine learns of a command is lost where its job is written anew. -/
theorem State.noteCommand_setJob (h : s.engineOf t = some e) (o : Option Job) :
    (s.noteCommand t f).setJob e o = s.setJob e o := by
  unfold State.noteCommand
  rw [h]
  dsimp only
  split
  · rfl
  · split <;> simp

/-- A request for another power up to Pmax with no command pending is sent as it stands (R55, R56, R58). -/
theorem State.requestPower_sent (hr : (s.term t).completed s.lastFrame = r) (hnone : r.pendingCmd = none) (hp : p ≤ r.pmax)
    (hne : p ≠ r.pc) (hf : f = s.effectFrame) :
    s.requestPower t p = ((s.setTerm t (r.issued p f)).send (.power t p f)).noteCommand t f := by
  have hvalue : r.issueValue p = p := by
    unfold TermRec.issueValue
    rw [clampNat_zero, Nat.min_eq_left hp]
  have hgrants : ((s.term t).completed s.lastFrame).grants p := by
    rw [hr]
    exact ⟨hnone, by rw [hvalue]; exact hne⟩
  refine (State.requestPower_issued s t hgrants).trans ?_
  rw [hr, hvalue, ← hf]

/-- The SETTLE target as it stands (R41, R42). -/
theorem State.rampTarget_eq (s : State) (t : TermId) :
    s.rampTarget t = min (max (min ((s.term t).fade - s.params.allowance) (s.term t).pmax) ((s.term t).foundPower.getD 0))
      (s.term t).pmax := by
  unfold State.rampTarget
  rw [settleTarget_eq, powerTarget_eq]

theorem directionTo_far {pc target : Nat} (h : 1 ≤ (target - pc) + (pc - target)) :
    directionTo pc target = if pc < target then .up else .down := by
  unfold directionTo
  split
  · rfl
  · rw [if_pos (by omega)]

theorem StepDir.opposite_iff (a b : StepDir) :
    a.opposite b = true ↔ (a = .up ∧ b = .down) ∨ (a = .down ∧ b = .up) := by
  cases a <;> cases b <;> decide

end Step

/-! ### The tick -/

section Tick

variable {s : State} {e : EngineId} {j : Job} {rp : Ramp} {r : TermRec} {target d size pc' step : Nat} {f : FrameNo}
  {dir : StepDir}

/-- The job after a step: VERIFY where the target is reached, else the ramp goes on (R106, R108, R111). -/
def Job.stepped (j : Job) (p : SectorParams) (target d size : Nat) (dir : StepDir) (depth power : Nat) (f : FrameNo) : Job :=
  if d ≤ size then { j with
    cmdFrame := some f, phase := .verify, ramp := none, gate := some (.begun depth power (some f)) }
  else { j with
    cmdFrame := some f
    ramp := some ⟨target, nextStep p.slowStep p.fastStep size (d - size), dir, max p.rampInterval p.latency⟩ }

/-- A tick whose countdown is spent (R106). -/
theorem State.tickIfDue_due (hj : s.job e = some j) (hp : j.phase = .settle) (hrp : j.ramp = some rp) (htick : rp.tick = 0) :
    s.tickIfDue e = s.rampTick e j rp := by
  unfold State.tickIfDue
  rw [hj]
  dsimp only
  rw [hp, hrp]
  exact if_pos htick

variable (hr : r = s.term j.term) (htarget : target = s.rampTarget j.term) (hd : d = (target - r.pc) + (r.pc - target))

include hr htarget hd in
/-- The target is the power in force: VERIFY (R107 step 1, R111). -/
theorem State.rampTick_reached (h : d = 0) : s.rampTick e j rp = s.enterVerify e j := by
  subst hr htarget
  unfold State.rampTick
  exact if_pos (hd.symm.trans h)

variable (hdir : dir = if r.pc < target then .up else .down)
  (hstep : step = if (dir = .up ∧ rp.dir = .down) ∨ (dir = .down ∧ rp.dir = .up) then s.params.slowStep else rp.step)

include hr htarget hd hdir hstep in
/-- Off the target the step is chosen by the direction, and a pending command decides (R107 steps 2 and 3). -/
theorem State.rampTick_far (h : 1 ≤ d) :
    s.rampTick e j rp =
      if (r.completed s.lastFrame).pendingCmd.isSome then
        (s.complete j.term).setJob e (some { j with
          ramp := some ⟨target, step, rp.dir, max s.params.rampInterval s.params.latency⟩ })
      else (s.complete j.term).rampStep e j target step dir d := by
  have hdirection : directionTo r.pc target = dir := (directionTo_far (hd ▸ h)).trans hdir.symm
  have hturn : (if dir.opposite rp.dir then s.params.slowStep else rp.step) = step :=
    (if_congr (StepDir.opposite_iff dir rp.dir) rfl rfl).trans hstep.symm
  unfold State.rampTick
  simp only [← htarget, ← hr, hdirection, hturn, ← hd, State.complete_term_self]
  exact if_neg (by omega)

include hr htarget hd hdir hstep in
/-- A command is pending: the tick is skipped (R107 step 3, R106). -/
theorem State.rampTick_skips (h : 1 ≤ d) (hpending : (r.completed s.lastFrame).pendingCmd.isSome = true) :
    s.rampTick e j rp = s.setJob e (some { j with
      ramp := some ⟨target, step, rp.dir, max s.params.rampInterval s.params.latency⟩ }) := by
  have hstill : s.complete j.term = s := by
    unfold State.complete
    rw [← hr, TermRec.completed_of_isSome hpending, hr, State.setTerm_self]
  rw [State.rampTick_far hr htarget hd hdir hstep h, if_pos hpending, hstill]

variable (hsize : size = max s.params.slowStep (min step s.params.fastStep))
  (hpc' : pc' = if r.pc < target then r.pc + min size d else r.pc - min size d)
  (hf : f = s.lastFrame + BitVec.ofNat 16 s.params.latency)

include hr htarget hd hdir hstep hsize hpc' hf in
/-- No command is pending: a POWER toward the target, and the ramp goes on or ends (R108, R111). -/
theorem State.rampTick_steps (h : 1 ≤ d) (hnone : (r.completed s.lastFrame).pendingCmd = none)
    (hengine : s.engineOf j.term = some e) (hpower : r.pc ≤ r.pmax) (hslow : 1 ≤ s.params.slowStep)
    (hfast : s.params.slowStep ≤ s.params.fastStep) :
    s.rampTick e j rp =
      ((s.setTerm j.term ((r.completed s.lastFrame).issued pc' f)).send (.power j.term pc' f)).setJob e
        (some (j.stepped s.params target d size dir r.depth pc' f)) := by
  have hmax : target ≤ r.pmax := by
    rw [htarget, State.rampTarget_eq, ← hr]
    exact Nat.min_le_right _ _
  have hbound : pc' ≤ r.pmax ∧ pc' ≠ r.pc := by
    rw [hpc']
    split <;> omega
  have hclamp : rampStepSize s.params.slowStep s.params.fastStep step = size := by
    rw [hsize]
    exact clampNat_eq _ _ _ hfast
  have hup : (if dir = .up then r.pc + min size d else r.pc - min size d) = pc' := by
    rw [hpc', hdir]
    split <;> simp
  have hsent := State.requestPower_sent (s := s) (t := j.term) (p := pc') (f := f) (by rw [← hr]) hnone
    (by rw [TermRec.completed_pmax]; exact hbound.1) (by rw [TermRec.completed_pc]; exact hbound.2) hf
  rw [← State.complete_requestPower] at hsent
  rw [State.rampTick_far hr htarget hd hdir hstep h, hnone]
  refine (if_neg Bool.false_ne_true).trans ?_
  unfold State.rampStep
  simp only [State.complete_params, State.complete_term_self, ← hr, TermRec.completed_pc, hclamp, hup, hsent]
  generalize hy : State.send _ _ = y
  have hview : y.term j.term = (r.completed s.lastFrame).issued pc' f ∧ y.engineOf j.term = some e ∧ y.params = s.params ∧
      y.effectFrame = f := by
    rw [← hy]
    exact ⟨State.setTerm_term_self .., hengine, rfl, hf.symm⟩
  obtain ⟨hterm, hholds, hparams, hframe⟩ := hview
  have hkept := y.noteCommand_kept j.term f
  have hdepth : (r.completed s.lastFrame).depth = r.depth := by rw [TermRec.completed_eq]
  have hframe' : (y.noteCommand j.term f).effectFrame = f := by
    unfold State.effectFrame
    rw [kept_lastFrame hkept, kept_params hkept]
    exact hframe
  unfold State.enterVerify State.verifyGate State.tickSpacing
  simp only [hframe', State.noteCommand_term, hterm, State.noteCommand_setJob hholds, kept_params hkept, hparams,
    TermRec.issued, hdepth]
  unfold Job.stepped
  by_cases hnear : d ≤ size
  · rw [if_pos (by omega), if_pos hnear]
  · rw [if_neg (by omega), if_neg hnear, Nat.min_eq_left (Nat.le_of_not_le hnear)]

end Tick

/-- Settles O47: the three outcomes of a tick, the last as one write of record, message and job. -/
theorem rampTicks : Obligations.RampTicks := by
  intro s e j rp r target d size pc' step f dir hpower hsector hj hengine hp hrp htick hr htarget hd hdir hstep hsize hpc' hf
  have hgoal : target = s.rampTarget j.term := by rw [htarget, hr, State.rampTarget_eq]
  have hexec : exec (.rampTick e) s = .next (s.rampTick e j rp) :=
    congrArg Host.Outcome.next (State.tickIfDue_due hj hp hrp htick)
  obtain ⟨-, -, -, -, -, -, -, -, -, -, -, -, -, -, ⟨hslow, -⟩, ⟨hfast, -⟩, -⟩ := hsector
  obtain ⟨-, hle, -⟩ := hpower j.term
  rw [hexec]
  refine ⟨fun h => ?_, fun h hpending => ?_, fun h hnone => ?_⟩
  · rw [State.rampTick_reached hr hgoal hd h, hr]
    rfl
  · rw [State.rampTick_skips hr hgoal hd hdir hstep h hpending]
  · rw [State.rampTick_steps hr hgoal hd hdir hstep hsize hpc' hf h hnone hengine (hr ▸ hle) hslow hfast]
    refine ⟨_, _, rfl, ?_, fun u hu => State.setTerm_term_ne s _ hu, rfl, ?_, State.setJob_job_self _ e _, fun hnear => ?_,
      fun hfar => ?_, fun e' he' => State.setJob_job_ne _ _ he', rfl, rfl, rfl, rfl, rfl, rfl, rfl, rfl, rfl, rfl,
      ⟨rfl, rfl, rfl, rfl, rfl, rfl, rfl, rfl, rfl, rfl⟩, ⟨rfl, rfl, rfl⟩⟩
    · exact State.setTerm_term_self ..
    · rw [hpc']
      split <;> omega
    · exact if_pos hnear
    · exact if_neg (Nat.not_le.mpr hfar)

end Sys2Proof.Machine
end

section
/-! Losses by measurement: what loses a SERVING terminal (R47, R50, R63, R65), and the loss short of an outage (R67, R68,
R136). -/

namespace Sys2Proof.Machine

/-! ### The loss of a terminal whose record was written in the same event -/

/-- The record of a terminal lost by measurement, back in the queue (R67, R68). -/
def TermRec.lostQueued (r : TermRec) (reason : LossReason) (n : FrameNo) : TermRec :=
  { r.lost reason n with state := .queued }

/-- A record written before its terminal joins the queue with another is lost. -/
theorem State.setTerm_rejoin (s : State) (t : TermId) (r r' : TermRec) : (s.setTerm t r).rejoin t r' = s.rejoin t r' := by
  unfold State.rejoin
  rw [State.setTerm_setTerm]

/-- The loss of a terminal just written with the record `r₀` (R67): WITHDRAW, the queue, then the loss window. -/
theorem State.lose_written {s : State} {t : TermId} {r₀ r : TermRec} {reason : LossReason} (hst : r₀.state = .serving)
    (hr : (r₀.completed s.lastFrame).lost reason s.lastFrame = r.lost reason s.lastFrame) (hreason : reason ≠ .forced) :
    (s.setTerm t r₀).lose t reason =
      ((s.send (.withdraw t)).rejoin t (r.lostQueued reason s.lastFrame)).offerLoss := by
  have hjoin := State.setTerm_rejoin (s.send (.withdraw t)) t (r₀.completed s.lastFrame) (r.lostQueued reason s.lastFrame)
  have hwrite : ((s.setTerm t r₀).complete t).send (.withdraw t) =
      (s.send (.withdraw t)).setTerm t (r₀.completed s.lastFrame) := by
    unfold State.complete
    rw [State.setTerm_term_self, State.setTerm_setTerm]
    rfl
  rw [State.lose_eq _ _ _ (by rw [State.setTerm_term_self]; exact hst)]
  dsimp only
  rw [if_neg hreason, hwrite, State.setTerm_term_self, State.setTerm_lastFrame, hr]
  exact congrArg State.offerLoss hjoin

/-! ### What loses a terminal -/

section Causes

variable {s : State} {m errors : Byte} {b : FrameNo} {level : BitVec 16} {t : TermId} {c : Instr} {r : TermRec} {F : Nat}

/-- Traffic missed up to the miss limit (R65). -/
theorem State.missedTraffic_loses (hst : (s.term t).state = .serving)
    (hlimit : s.params.missLimit ≤ min ((s.term t).missCount + 1) 15) (hr : r = (s.term t).completed s.lastFrame) :
    s.missedTraffic t = .trigger ((s.send (.withdraw t)).rejoin t (r.lostQueued .misses s.lastFrame)).offerLoss := by
  refine (if_pos hlimit).trans (congrArg Work.trigger (State.lose_written hst ?_ (by decide)))
  rw [TermRec.completed_misses, hr]
  rfl

/-- A rejected BURST or a MISS at the miss limit loses the terminal with reason MISSES (R65). -/
theorem exec_missed_loses (hc : c = .miss m b ∨ (c = .burst m b level errors ∧ s.params.errLimit < min errors.toNat 64))
    (hm : m.toNat = numberOf t) (hst : (s.term t).state = .serving)
    (hlimit : s.params.missLimit ≤ min ((s.term t).missCount + 1) 15) (hr : r = (s.term t).completed s.lastFrame) :
    exec c s = .next (Work.trigger
      ((s.mlHunt.send (.withdraw t)).rejoin t (r.lostQueued .misses s.lastFrame)).offerLoss).close := by
  have hmissed := State.missedTraffic_loses (s := s.mlHunt) hst hlimit hr
  rcases hc with rfl | ⟨rfl, herr⟩
  · rw [exec_miss, State.takeReport_serving (s := s.mlHunt) hm hst, State.trackReport_missed (s := s.mlHunt) (o := none) nofun,
      hmissed]
    rfl
  · rw [exec_burst, State.takeReport_serving (s := s.mlHunt) hm hst, State.trackReport_missed (s := s.mlHunt), hmissed]
    · rfl
    · rintro x ⟨⟩
      rw [receivedResponse_accepted]
      exact decide_eq_false (Nat.not_le.mpr herr)

/-- An accepted BURST whose verdict is FLOOR writes F and loses the terminal (R47, R50, R63). -/
theorem State.acceptedBurst_loses {x : Response} (hst : (s.term t).state = .serving)
    (hw : ¬ (s.term t).ambigUntil.any (fun a => earlier b a) = true) (hr : r = (s.term t).completed s.lastFrame)
    (hF : F = smooth s.params.alpha r.fade (fadeSample r.refLevel (r.burstPower b) x.level))
    (hv : marginDown r.sd (downFade F s.params.ratio) < s.ladder.at 0 ∨
      (marginUp r.su r.pc F < s.ladder.at 0 ∧ r.pc = r.pmax)) :
    s.acceptedBurst t b x = .trigger
      ((s.send (.withdraw t)).rejoin t (({ r with fade := F } : TermRec).lostQueued .floor s.lastFrame)).offerLoss := by
  have hfade : smooth s.params.alpha r.fade (fadeSample r.refLevel
      (({ r with missCount := 0 } : TermRec).burstPower b) x.level) = F := hF.symm
  have hverdict : servingVerdict s.ladder { r with missCount := 0, fade := F }
      (marginDown r.sd (downFade F s.params.ratio)) (marginUp r.su r.pc F) = .floor := servingVerdict_floor hv
  have hwrite : ((s.setTerm t { s.term t with missCount := 0 }).complete t).setTerm t
      { r with missCount := 0, fade := F } = s.setTerm t { r with missCount := 0, fade := F } := by
    unfold State.complete
    rw [State.setTerm_setTerm, State.setTerm_setTerm]
  unfold State.acceptedBurst
  dsimp only
  rw [State.setTerm_term_self, if_neg hw]
  unfold State.sampleBurst
  dsimp only
  rw [State.complete_term_self, State.setTerm_term_self, State.setTerm_lastFrame, TermRec.completed_misses, ← hr]
  simp only [State.complete_params, State.setTerm_params, State.setTerm_ladder, hfade, hwrite, hverdict]
  refine congrArg Work.trigger (State.lose_written ?_ ?_ (by decide))
  · rw [hr]
    exact (TermRec.completed_state ..).trans hst
  · rw [TermRec.completed_of_pending (r := s.term t) (by rw [hr])]
    rfl

theorem exec_floor_loses (hm : m.toNat = numberOf t) (hst : (s.term t).state = .serving)
    (herr : min errors.toNat 64 ≤ s.params.errLimit)
    (hw : ∀ a, (s.term t).ambigUntil = some a → ¬ (1 ≤ (a - b).toNat ∧ (a - b).toNat ≤ 32767))
    (hr : r = (s.term t).completed s.lastFrame)
    (hF : F = smooth s.params.alpha r.fade
      (fadeSample r.refLevel (r.burstPower b) (max (-480) (min level.toInt (-80)))))
    (hv : marginDown r.sd (downFade F s.params.ratio) < s.ladder.at 0 ∨
      (marginUp r.su r.pc F < s.ladder.at 0 ∧ r.pc = r.pmax)) :
    exec (.burst m b level errors) s = .next (Work.trigger ((s.mlHunt.send (.withdraw t)).rejoin t
      (({ r with fade := F } : TermRec).lostQueued .floor s.lastFrame)).offerLoss).close := by
  have hlevel : (receivedResponse level errors).level = max (-480) (min level.toInt (-80)) := by rw [receivedResponse_eq]
  rw [exec_burst, State.takeReport_serving (s := s.mlHunt) hm hst, State.trackReport_accepted (s := s.mlHunt),
    State.acceptedBurst_loses (s := s.mlHunt) hst (not_earlier_any hw) hr (by rw [hlevel]; exact hF) hv]
  · rfl
  · rw [receivedResponse_accepted]
    exact decide_eq_true herr

end Causes

/-! ### A loss short of an outage -/

/-- A loss in OUTAGE leaves the window, and one short of the quorum only enters it (R136, R138). -/
theorem State.offerLoss_short {s : State} {window : List Nat}
    (h : s.mode = .outage ∨ s.lossWindow.length + 1 < s.params.quorum)
    (hw : window = if s.mode = .outage then s.lossWindow else s.lossWindow ++ [s.params.windowLength]) :
    s.offerLoss = { s with lossWindow := window } := by
  unfold State.offerLoss
  split
  · next hmode => rw [hw, if_pos hmode]
  · next hmode =>
    have hlength := h.resolve_left hmode
    rw [hw, if_neg hmode]
    refine if_neg fun ⟨_, hquorum⟩ => ?_
    simp only [List.length_append, List.length_singleton] at hquorum
    omega

/-- A join leaves the loss window, and does not read it. -/
theorem State.rejoin_lossWindow (s : State) (t : TermId) (r : TermRec) (window : List Nat) :
    ({ s.rejoin t r with lossWindow := window } : State) = ({ s with lossWindow := window } : State).rejoin t r := by
  rw [State.rejoin_eq, State.rejoin_eq]
  rfl

/-- What a loss short of an outage leaves at the end of its event (R67, R68, R136). -/
theorem Work.close_lostQueued {s : State} {t : TermId} {r : TermRec} {reason : LossReason} {n : FrameNo} {v : State}
    (hshort : s.mode = .outage ∨ s.lossWindow.length + 1 < s.params.quorum)
    (hv : v = (Work.trigger ((s.mlHunt.send (.withdraw t)).rejoin t (r.lostQueued reason n)).offerLoss).close) :
    s.joined v t (r.lostQueued reason n) ∧ v.outbox = s.outbox ++ [.withdraw t] ∧
    v.lossWindow = (if s.mode = .outage then s.lossWindow else s.lossWindow ++ [s.params.windowLength]) ∧
    s.sameRest v ∧ s.samePort v ∧ v.mlRx = ⟨.hunt, 0, [], 0⟩ := by
  have hmode : (if s.mode = .clear then Mode.degraded else s.mode) = .outage ↔ s.mode = .outage := by
    cases s.mode <;> decide
  generalize hwindow : (if s.mode = .outage then s.lossWindow else s.lossWindow ++ [s.params.windowLength]) = window
  have hoffer : ((s.mlHunt.send (.withdraw t)).rejoin t (r.lostQueued reason n)).offerLoss =
      ({ s.mlHunt.send (.withdraw t) with lossWindow := window } : State).rejoin t (r.lostQueued reason n) := by
    rw [State.offerLoss_short (window := window), State.rejoin_lossWindow]
    · rw [State.rejoin_eq]
      exact hshort.imp_left hmode.mpr
    · rw [State.rejoin_eq]
      exact hwindow.symm.trans (if_congr hmode rfl rfl).symm
  rw [hoffer] at hv
  subst hv
  obtain ⟨hout, hwin, hkept⟩ := State.closed_rejoin_rest
    ({ s.mlHunt.send (.withdraw t) with lossWindow := window } : State) t (r.lostQueued reason n)
  exact ⟨State.joined_of_rejoin rfl rfl rfl rfl rfl, hout, hwin, State.frame_of_kept hkept⟩

/-- Settles O36: each cause brings the lost record to the queue, and the window short of the quorum only grows. -/
theorem measurementLoses : Obligations.MeasurementLoses := by
  refine ⟨fun s m errors b level t c hc hm hst hlimit hshort => ?_,
    fun s m errors b level t r F hm hst herr hw hr hF hv hshort => ?_⟩
  · exact ⟨_, _, exec_missed_loses hc hm hst hlimit rfl, rfl, Work.close_lostQueued hshort rfl⟩
  · exact ⟨_, exec_floor_loses hm hst herr hw hr hF hv, Work.close_lostQueued (r := { r with fade := F }) hshort rfl⟩

end Sys2Proof.Machine
end

section
/-! The loss that meets the quorum: entry into OUTAGE (R75, R77, R136, R138 to R140). -/

namespace Sys2Proof.Machine

/-! ### What the abandoning of jobs and contexts leaves -/

/-- A record does not stay in the state it passes from. -/
theorem TermRec.transit_state_ne (r : TermRec) {a b : TermState} (hab : a ≠ b) : (r.transit a b).state ≠ a := by
  unfold TermRec.transit
  split
  · exact hab.symm
  · assumption

/-- The WITHDRAW that an abandoned job sends, if its terminal is admitted (R139). -/
def Job.withdrawal (j : Job) : Option OutMsg := if j.phase.admitted then some (.withdraw j.term) else none

/-- The fields of the loss and of the polls that the abandoning of a job leaves (R139). -/
theorem State.abandonJob_frame (s : State) (e : EngineId) :
    (s.abandonJob e).mode = s.mode ∧ (s.abandonJob e).sectorMark = s.sectorMark ∧ (s.abandonJob e).polls = s.polls ∧
    (s.abandonJob e).serial = s.serial := by
  unfold State.abandonJob
  split
  · exact ⟨rfl, rfl, rfl, rfl⟩
  · next j _ =>
    have hkept := (((if j.phase.admitted = true then s.send (.withdraw j.term) else s).setJob e none).transition_arbKept
      j.term .active .queued)
    refine ⟨(arbKept_mode hkept).trans ?_, (arbKept_sectorMark hkept).trans ?_, (arbKept_polls hkept).trans ?_,
      (State.transition_serial ..).trans ?_⟩ <;> split <;> rfl

/-- What the abandoning of a job sends and marks (R7, R139). -/
theorem State.abandonJob_sends (s : State) (e : EngineId) :
    (s.abandonJob e).outbox = s.outbox ++ ((s.job e).bind Job.withdrawal).toList ∧
    ∀ u, (s.abandonJob e).marked u = (s.marked u || decide (s.worker e = some u ∧ (s.term u).state = .active)) := by
  unfold State.abandonJob
  split
  · next hj => simp [State.worker, hj]
  · next j hj =>
    rw [State.worker_of_job hj, hj]
    dsimp only
    generalize hx : (if j.phase.admitted = true then s.send (.withdraw j.term) else s) = x
    have hout : x.outbox = s.outbox ++ j.withdrawal.toList := by
      rw [← hx]
      unfold Job.withdrawal
      split <;> simp
    have hview : (∀ u, x.term u = s.term u) ∧ ∀ u, x.marked u = s.marked u := by
      rw [← hx]
      split <;> exact ⟨fun _ => rfl, fun _ => rfl⟩
    obtain ⟨hterm, hmarked⟩ := hview
    refine ⟨(arbKept_outbox (State.transition_arbKept ..)).trans hout, fun u => ?_⟩
    rw [State.transition_marked, State.setJob_marked, State.setJob_term, hmarked, hterm]
    by_cases hu : u = j.term
    · simp [hu]
    · simp [hu, Ne.symm hu]

theorem foldl_abandonJob_frame (l : List EngineId) : ∀ s : State,
    (l.foldl State.abandonJob s).mode = s.mode ∧ (l.foldl State.abandonJob s).sectorMark = s.sectorMark ∧
    (l.foldl State.abandonJob s).polls = s.polls ∧ (l.foldl State.abandonJob s).serial = s.serial := by
  induction l with
  | nil => exact fun _ => ⟨rfl, rfl, rfl, rfl⟩
  | cons e l ih =>
    intro s
    obtain ⟨hmode, hsector, hpolls, hserial⟩ := s.abandonJob_frame e
    obtain ⟨hmode', hsector', hpolls', hserial'⟩ := ih (s.abandonJob e)
    exact ⟨hmode'.trans hmode, hsector'.trans hsector, hpolls'.trans hpolls, hserial'.trans hserial⟩

/-- The engines' jobs abandoned one after another: the WITHDRAWs in engine order, and the marks (R139). -/
theorem foldl_abandonJob_sends (l : List EngineId) : ∀ s : State, l.Nodup →
    (l.foldl State.abandonJob s).outbox = s.outbox ++ l.filterMap (fun e => (s.job e).bind Job.withdrawal) ∧
    ∀ u, (l.foldl State.abandonJob s).marked u =
      (s.marked u || decide ((∃ e ∈ l, s.worker e = some u) ∧ (s.term u).state = .active)) := by
  induction l with
  | nil => exact fun s _ => by simp
  | cons e l ih =>
    intro s hl
    obtain ⟨hnot, hl⟩ := List.nodup_cons.mp hl
    obtain ⟨hterm, hjob, -, -⟩ := s.abandonJob_spec e
    obtain ⟨hout, hmarked⟩ := s.abandonJob_sends e
    obtain ⟨hout', hmarked'⟩ := ih (s.abandonJob e) hl
    have hrest : ∀ f ∈ l, (s.abandonJob e).job f = s.job f := fun f hf =>
      (hjob f).trans (if_neg fun h : f = e => hnot (h ▸ hf))
    refine ⟨?_, fun u => ?_⟩
    · have hsame : l.filterMap (fun f => ((s.abandonJob e).job f).bind Job.withdrawal) =
          l.filterMap (fun f => (s.job f).bind Job.withdrawal) :=
        List.filterMap_congr fun f hf => by rw [hrest f hf]
      rw [List.foldl_cons, hout', hout, hsame, List.append_assoc]
      cases hm : (s.job e).bind Job.withdrawal <;> simp [hm]
    · have hworkers : (∃ f ∈ l, (s.abandonJob e).worker f = some u) ↔ ∃ f ∈ l, s.worker f = some u :=
        exists_congr fun f => and_congr_right fun hf => by unfold State.worker; rw [hrest f hf]
      rw [List.foldl_cons, hmarked', hmarked, hterm]
      by_cases he : s.worker e = some u
      · simp [he, TermRec.transit_state_ne (s.term u) (show TermState.active ≠ .queued by decide)]
      · simp [he, hworkers]

/-- The marks after one terminal after another has passed (R7). -/
theorem foldl_transition_marked (l : List TermId) {a b : TermState} (hab : a ≠ b) (u : TermId) : ∀ s : State,
    (l.foldl (fun s t => s.transition t a b) s).marked u = (s.marked u || decide (u ∈ l ∧ (s.term u).state = a)) := by
  induction l with
  | nil => simp
  | cons t l ih =>
    intro s
    rw [List.foldl_cons, ih, State.transition_marked, State.transition_term_eq]
    by_cases hu : u = t
    · subst hu
      simp [TermRec.transit_state_ne (s.term u) hab]
    · simp [hu]

theorem foldl_transition_arbKept (l : List TermId) (a b : TermState) (s : State) :
    (l.foldl (fun s t => s.transition t a b) s).arbKept = s.arbKept ∧
    (l.foldl (fun s t => s.transition t a b) s).serial = s.serial := by
  induction l generalizing s with
  | nil => exact ⟨rfl, rfl⟩
  | cons t l ih =>
    obtain ⟨hkept, hserial⟩ := ih (s.transition t a b)
    exact ⟨hkept.trans (s.transition_arbKept t a b), hserial.trans (s.transition_serial t a b)⟩

/-- What the abandoning of jobs and contexts leaves beside the records, the marks and the collections (R139). -/
theorem State.abandonAll_frame (s : State) :
    s.abandonAll.mode = .outage ∧ s.abandonAll.sectorMark = (s.sectorMark || decide (s.mode ≠ .outage)) ∧
    s.abandonAll.polls = s.polls ∧ s.abandonAll.serial = s.serial ∧
    s.abandonAll.outbox = s.outbox ++ allEngines.filterMap (fun e => (s.job e).bind Job.withdrawal) := by
  have hset := s.setMode_eq .outage
  unfold State.abandonAll
  generalize s.setMode .outage = x at hset
  obtain ⟨hmode, hsector, hpolls, hserial⟩ := foldl_abandonJob_frame allEngines x
  obtain ⟨hout, -⟩ := foldl_abandonJob_sends allEngines x (by decide)
  generalize List.foldl State.abandonJob x allEngines = y at *
  obtain ⟨hkept, hserial'⟩ := foldl_transition_arbKept (s.stack.map Context.term) .suspended .queued (y.setStack [])
  subst hset
  exact ⟨(arbKept_mode hkept).trans hmode, ((arbKept_sectorMark hkept).trans hsector).trans (by simp [eq_comm]),
    (arbKept_polls hkept).trans hpolls, hserial'.trans hserial, (arbKept_outbox hkept).trans hout⟩

/-- What entry into OUTAGE leaves beside the records, the marks and the queue (R138 to R140). -/
theorem State.enterOutage_frame (s : State) :
    s.enterOutage.mode = .outage ∧ s.enterOutage.sectorMark = (s.sectorMark || decide (s.mode ≠ .outage)) ∧
    s.enterOutage.polls = s.polls ∧ s.enterOutage.serial = s.serial ∧ s.enterOutage.lossWindow = [] ∧
    s.enterOutage.stack = [] ∧ (∀ e, s.enterOutage.job e = none) ∧
    s.enterOutage.outbox = s.outbox ++ allEngines.filterMap (fun e => (s.job e).bind Job.withdrawal) := by
  obtain ⟨-, hstack, hjob⟩ := s.abandonAll_rest
  obtain ⟨hmode, hsector, hpolls, hserial, hout⟩ := s.abandonAll_frame
  rw [State.enterOutage_eq]
  simp only [State.job, State.clearHeard, State.setQueue] at hjob ⊢
  exact ⟨hmode, hsector, hpolls, hserial, trivial, hstack, hjob, hout⟩

theorem TermRec.transit_heard (r : TermRec) (a b : TermState) : (r.transit a b).heard = r.heard := by
  unfold TermRec.transit
  split <;> rfl

theorem TermRec.transit_core (r : TermRec) {a : TermState} (b : TermState) (ha : a ≠ .backoff) :
    (r.transit a b).core = r.core := by
  unfold TermRec.transit
  rw [if_neg ha]
  split <;> rfl

theorem State.abandonAll_heard (s : State) (u : TermId) : (s.abandonAll.term u).heard = (s.term u).heard := by
  rw [State.abandonAll_term]
  split <;> split <;> simp only [TermRec.transit_heard]

theorem State.abandonAll_core (s : State) (u : TermId) : (s.abandonAll.term u).core = (s.term u).core := by
  have hactive := fun r : TermRec => r.transit_core (a := .active) .queued (by decide)
  have hsuspended := fun r : TermRec => r.transit_core (a := .suspended) .queued (by decide)
  rw [State.abandonAll_term]
  split <;> split <;> simp only [hactive, hsuspended]

section Placed

variable {s : State} (h : s.Placed True)

include h in
/-- Every terminal that an engine or the stack held is marked (R7, R139). -/
theorem State.abandonAll_marked (u : TermId) :
    s.abandonAll.marked u = (s.marked u || decide (u ∈ s.workers ∨ u ∈ s.onStack)) := by
  obtain ⟨-, hworkers⟩ := foldl_abandonJob_sends allEngines (s.setMode .outage) (by decide)
  have hmark : (s.setMode .outage).marked u = s.marked u := by rw [State.setMode_eq]; rfl
  unfold State.abandonAll
  rw [foldl_transition_marked _ (by decide), State.setStack_marked, State.setStack_term, (foldl_abandonJob _ _).1, hworkers u,
    hmark]
  simp only [mem_allEngines, true_and, State.setMode_worker, State.setMode_term, ← State.mem_workers]
  have honStack : s.onStack = s.stack.map Context.term := rfl
  rw [honStack]
  by_cases hw : u ∈ s.workers
  · simp [hw, h.workers.2.1 u hw]
  · by_cases hk : u ∈ s.stack.map Context.term
    · simp only [hw, hk, if_false, h.suspended hk]
      simp
    · simp only [hw, hk]
      simp

include h in
theorem State.enterOutage_marked (u : TermId) :
    s.enterOutage.marked u = (s.marked u || decide (u ∈ s.workers ∨ u ∈ s.onStack)) := by
  have hmarked := State.abandonAll_marked h u
  rw [State.enterOutage_eq]
  simp only [State.marked, State.clearHeard, State.setQueue] at hmarked ⊢
  exact hmarked

include h in
/-- The records after entry into OUTAGE: only the state and the heard flag differ (R139, R140). -/
theorem State.enterOutage_record (u : TermId) :
    (s.term u).sameButPlace (s.enterOutage.term u) ∧
    (s.enterOutage.term u).state = (if u ∈ s.workers ∨ u ∈ s.onStack then .queued else (s.term u).state) ∧
    (s.enterOutage.term u).heard = (if (s.enterOutage.term u).state = .queued then false else (s.term u).heard) := by
  refine ⟨TermRec.core_eq ?_, State.enterOutage_state h u, ?_⟩
  · rw [State.enterOutage_term]
    refine Eq.trans ?_ (s.abandonAll_core u)
    split <;> rfl
  · rw [State.enterOutage_term]
    split
    · rfl
    · exact s.abandonAll_heard u

end Placed

/-- The queue of R75 and R77 hangs on the queue before, the classes and the heard flags. -/
theorem State.requeued_eq {s u : State} {gone : List TermId} {cls : TermId → Nat} (hqueue : s.queue = u.queue)
    (hcls : ∀ x, (s.term x).cls = cls x) (hcls' : ∀ x, (u.term x).cls = cls x)
    (hheard : ∀ x, (s.term x).heard = (u.term x).heard) :
    s.requeued gone = [0, 1, 2, 3].flatMap (fun c =>
      gone.filter (fun x => cls x = c) ++
      u.queue.filter (fun x => (u.term x).cls = c ∧ (u.term x).heard = true) ++
      u.queue.filter (fun x => (u.term x).cls = c ∧ (u.term x).heard = false)) := by
  unfold State.requeued
  simp only [hqueue, hcls, hcls', hheard, Bool.not_eq_true']

/-- With every engine idle nothing is preempted (R84, R89). -/
theorem State.preemptBlocked_idle {s : State} (h : ∀ e, s.job e = none) : s.preemptBlocked = false := by
  rw [← Bool.not_eq_true, State.preemptBlocked_iff]
  rintro ⟨hbusy, -⟩
  have hfirst := hbusy 0
  rw [h 0] at hfirst
  cases hfirst

/-! ### The loss that meets the quorum -/

/-- A loss at the quorum in DEGRADED begins an outage (R136, R138). -/
theorem State.offerLoss_quorum {s : State} {window : List Nat} (hmode : s.mode = .degraded)
    (hquorum : s.params.quorum ≤ s.lossWindow.length + 1) (hw : window = s.lossWindow ++ [s.params.windowLength]) :
    s.offerLoss = ({ s with lossWindow := window } : State).enterOutage := by
  unfold State.offerLoss
  rw [if_neg (by rw [hmode]; decide), hw]
  exact if_pos ⟨hmode, by simpa using hquorum⟩

/-- In OUTAGE the end of an event only re-examines preempt-pending (R80, R89). -/
theorem Work.close_outage {s : State} (h : s.mode = .outage) : (Work.trigger s).close = s.reexamine :=
  congrArg State.reexamine (State.evaluate_skipped s (.inr h))

theorem State.rejoin_marked (s : State) (t u : TermId) (r : TermRec) :
    (s.rejoin t r).marked u = (s.marked u || decide (u = t)) := by
  rw [State.rejoin_eq]
  refine (State.mark_marked s t u).trans ?_
  by_cases hu : u = t <;> simp [hu]

section Quorum

variable {s : State} {t : TermId} {r : TermRec} {reason : LossReason} {n : FrameNo}

/-- The state in which a loss meets the quorum: the lost terminal in the queue, its entry in the window (R136). -/
def State.atQuorum (s : State) (t : TermId) (r : TermRec) (reason : LossReason) (n : FrameNo) : State :=
  ({ s.mlHunt.send (.withdraw t) with lossWindow := s.lossWindow ++ [s.params.windowLength] } : State).rejoin t
    (r.lostQueued reason n)

theorem State.atQuorum_term (s : State) (t u : TermId) (r : TermRec) (reason : LossReason) (n : FrameNo) :
    (s.atQuorum t r reason n).term u = if u = t then r.lostQueued reason n else s.term u := State.rejoin_term ..

/-- What the loss has written before the outage begins, beside the record and the queue. -/
theorem State.atQuorum_fields (s : State) (t : TermId) (r : TermRec) (reason : LossReason) (n : FrameNo) :
    (s.atQuorum t r reason n).polls = s.polls ∧ (s.atQuorum t r reason n).serial = s.serial ∧
    (s.atQuorum t r reason n).outbox = s.outbox ++ [.withdraw t] ∧
    (s.atQuorum t r reason n).mode = (if s.mode = .clear then .degraded else s.mode) ∧
    (∀ u, (s.atQuorum t r reason n).marked u = (s.marked u || decide (u = t))) ∧
    ∀ e, (s.atQuorum t r reason n).job e = s.job e := by
  refine ⟨?_, ?_, ?_, ?_, fun u => State.rejoin_marked .., State.job_congr (State.rejoin_engines ..)⟩ <;>
    (unfold State.atQuorum; rw [State.rejoin_eq]; rfl)

/-- A loss by measurement at the quorum is the entry into OUTAGE from there (R138). -/
theorem State.lostQueued_outage (hmode : s.mode ≠ .outage) (hquorum : s.params.quorum ≤ s.lossWindow.length + 1) :
    ((s.mlHunt.send (.withdraw t)).rejoin t (r.lostQueued reason n)).offerLoss =
      (s.atQuorum t r reason n).enterOutage := by
  have hdegraded : ((s.mlHunt.send (.withdraw t)).rejoin t (r.lostQueued reason n)).mode = .degraded := by
    rw [State.rejoin_eq]
    show (if s.mode = .clear then Mode.degraded else s.mode) = _
    cases hm : s.mode <;> simp_all
  have hwindow : ((s.mlHunt.send (.withdraw t)).rejoin t (r.lostQueued reason n)).lossWindow = s.lossWindow := by
    rw [State.rejoin_eq]
    rfl
  have hoffer := State.offerLoss_quorum (window := s.lossWindow ++ [s.params.windowLength]) hdegraded
    (by rw [hwindow, State.rejoin_params]; exact hquorum) (by rw [hwindow, State.rejoin_params]; rfl)
  exact hoffer.trans (congrArg State.enterOutage (State.rejoin_lossWindow ..))

/-- The rosters stand once the lost terminal waits in the queue (R6, R67). -/
theorem State.atQuorum_placed (hlaw : CollectionsLaw s) (hst : (s.term t).state = .serving) (hr : r.state = .serving) :
    (s.atQuorum t r reason n).Placed True := by
  have hwritten : (({ s.mlHunt.send (.withdraw t) with
      lossWindow := s.lossWindow ++ [s.params.windowLength] } : State).setTerm t r).Placed True := by
    refine ((collectionsLaw_iff s).mp hlaw).congr (fun u => ?_) rfl (fun _ => rfl) rfl
    rw [State.setTerm_term]
    split
    · next hu => rw [hu, hr, hst]
    · rfl
  have hjoined := State.rejoin_placed (t := t) (r := r.lostQueued reason n) hwritten (by
    rw [State.setTerm_term_self]
    exact .lost reason n hr)
  rwa [State.setTerm_rejoin] at hjoined

/-- The queue of the quorum's loss, as the statement builds it (R75, R77). -/
theorem State.atQuorum_requeued {u : State} {gone : List TermId} (hcls : r.cls = (s.term t).cls)
    (hu : u = (s.setTerm t { s.term t with state := .queued, heard := false }).joinEnd t)
    (hgone : gone = s.abandonList) :
    (s.atQuorum t r reason n).enterOutage.queue = [0, 1, 2, 3].flatMap (fun c =>
      gone.filter (fun x => (s.term x).cls = c) ++
      u.queue.filter (fun x => (u.term x).cls = c ∧ (u.term x).heard = true) ++
      u.queue.filter (fun x => (u.term x).cls = c ∧ (u.term x).heard = false)) := by
  have hlost : (r.lostQueued reason n).cls = (s.term t).cls ∧ (r.lostQueued reason n).heard = false := ⟨hcls, rfl⟩
  have hterm : ∀ x, (u.term x).cls = (s.term x).cls ∧ (u.term x).heard = ((s.atQuorum t r reason n).term x).heard ∧
      ((s.atQuorum t r reason n).term x).cls = (s.term x).cls := fun x => by
    rw [hu, State.joinEnd_term, State.setTerm_term, State.atQuorum_term]
    split
    · next hx =>
      subst hx
      exact ⟨rfl, hlost.2.symm, hlost.1⟩
    · exact ⟨rfl, rfl, rfl⟩
  have hqueue : (s.atQuorum t r reason n).abandonAll.queue = u.queue := by
    obtain ⟨hqueue, -⟩ := (s.atQuorum t r reason n).abandonAll_rest
    rw [hqueue, hu]
    refine (State.rejoin_queue ..).trans (State.joinEnd_queue_congr s t ?_)
    unfold TermRec.group
    rw [hlost.1, hlost.2]
  have hlist : (s.atQuorum t r reason n).abandonList = gone := by
    unfold State.abandonList State.atQuorum
    simp only [State.job_congr (State.rejoin_engines ..), State.rejoin_stack, hgone]
    rfl
  rw [State.enterOutage_eq, hlist]
  refine State.requeued_eq hqueue (fun x => ?_) (fun x => (hterm x).1) fun x => ?_
  · rw [State.abandonAll_cls]
    exact (hterm x).2.2
  · rw [State.abandonAll_heard]
    exact (hterm x).2.1.symm

end Quorum

/-- Either cause of the statement writes a SERVING record, loses it, and keeps its class. -/
theorem exec_loses {s : State} {m errors : Byte} {b : FrameNo} {level : BitVec 16} {t : TermId} {c : Instr} {r : TermRec}
    {F : Nat} {reason : LossReason} (hm : m.toNat = numberOf t) (hst : (s.term t).state = .serving)
    (hF : F = smooth s.params.alpha ((s.term t).completed s.lastFrame).fade
      (fadeSample (s.term t).refLevel (((s.term t).completed s.lastFrame).burstPower b)
        (max (-480) (min level.toInt (-80)))))
    (hcause : (reason = .misses ∧ r = (s.term t).completed s.lastFrame ∧
        (c = .miss m b ∨ (c = .burst m b level errors ∧ s.params.errLimit < min errors.toNat 64)) ∧
        s.params.missLimit ≤ min ((s.term t).missCount + 1) 15) ∨
      (reason = .floor ∧ r = { (s.term t).completed s.lastFrame with fade := F } ∧ c = .burst m b level errors ∧
        min errors.toNat 64 ≤ s.params.errLimit ∧
        (∀ a, (s.term t).ambigUntil = some a → ¬ (1 ≤ (a - b).toNat ∧ (a - b).toNat ≤ 32767)) ∧
        (marginDown r.sd (downFade F s.params.ratio) < s.ladder.at 0 ∨
          (marginUp r.su r.pc F < s.ladder.at 0 ∧ r.pc = r.pmax)))) :
    exec c s = .next (Work.trigger
      ((s.mlHunt.send (.withdraw t)).rejoin t (r.lostQueued reason s.lastFrame)).offerLoss).close ∧
    r.state = .serving ∧ r.cls = (s.term t).cls := by
  have hserving : ((s.term t).completed s.lastFrame).state = .serving := (TermRec.completed_state ..).trans hst
  have hfields : ((s.term t).completed s.lastFrame).cls = (s.term t).cls ∧
      ((s.term t).completed s.lastFrame).refLevel = (s.term t).refLevel := by
    rw [TermRec.completed_eq]
    exact ⟨rfl, rfl⟩
  obtain ⟨hcls, hlevel⟩ := hfields
  rcases hcause with ⟨rfl, rfl, hc, hlimit⟩ | ⟨rfl, rfl, rfl, herr, hw, hv⟩
  · exact ⟨exec_missed_loses hc hm hst hlimit rfl, hserving, hcls⟩
  · exact ⟨exec_floor_loses hm hst herr hw rfl (hlevel ▸ hF) hv, hserving, hcls⟩

/-- Settles O37: the lost terminal joins, then every job and context is abandoned and the queue built anew. -/
theorem quorumBeginsOutage : Obligations.QuorumBeginsOutage := by
  intro s m errors b level t c r F reason hlaw hm hst hF hcause hmode hquorum
  obtain ⟨hexec, hserving, hcls⟩ := exec_loses hm hst hF hcause
  have hplaced := State.atQuorum_placed (reason := reason) (n := s.lastFrame) hlaw hst hserving
  have hterm := fun u => s.atQuorum_term t u r reason s.lastFrame
  have hgone : ∀ x, x ∈ s.abandonList ↔ x ∈ (s.atQuorum t r reason s.lastFrame).workers ∨
      x ∈ (s.atQuorum t r reason s.lastFrame).onStack := fun x => by
    have hworkers : (s.atQuorum t r reason s.lastFrame).workers = s.workers :=
      State.workers_congr (State.worker_congr (State.rejoin_engines ..))
    have hstack : (s.atQuorum t r reason s.lastFrame).onStack = s.onStack :=
      congrArg (List.map Context.term) (State.rejoin_stack ..)
    rw [hworkers, hstack]
    exact List.mem_append
  have hqueue := State.atQuorum_requeued (reason := reason) (n := s.lastFrame) hcls rfl rfl
  obtain ⟨houtage, hsector, hpolls, hserial, hwindow, hstack, hjobs, hout⟩ :=
    (s.atQuorum t r reason s.lastFrame).enterOutage_frame
  have hrecord := State.enterOutage_record hplaced
  have hmarked := State.enterOutage_marked hplaced
  simp only [← hgone, hterm] at hrecord hmarked
  obtain ⟨hypolls, hyserial, hyout, hymode, hymarked, hyjob⟩ := s.atQuorum_fields t r reason s.lastFrame
  rw [State.lostQueued_outage hmode hquorum, Work.close_outage houtage] at hexec
  refine ⟨_, _, _, hexec, rfl, rfl, houtage, ?_, hjobs, hstack, hwindow, State.preemptBlocked_idle hjobs,
    hserial.trans hyserial, hpolls.trans hypolls, hqueue, fun x hx => ?_, ?_, fun x => ?_, ?_, State.frame_of_kept ?_⟩
  · refine hsector.trans ?_
    rw [hymode]
    cases hm : s.mode <;> simp_all
  · obtain ⟨hsame, hstate, hheard⟩ := hrecord x
    rw [if_neg hx] at hsame hstate hheard
    exact ⟨hsame, hstate, hheard⟩
  · obtain ⟨hsame, hstate, hheard⟩ := hrecord t
    rw [if_pos rfl] at hsame hstate hheard
    have hqueued := hstate.trans (ite_self _)
    rw [if_pos hqueued] at hheard
    refine Eq.trans (b := { r.lostQueued reason s.lastFrame with state := .queued, heard := false }) ?_ rfl
    rw [← hqueued, ← hheard]
    exact hsame
  · refine (hmarked x).trans ?_
    rw [hymarked, Bool.or_assoc, Bool.decide_or]
    rfl
  · refine hout.trans ?_
    rw [hyout]
    simp only [hyjob]
    rfl
  · rw [State.reexamine_kept, State.enterOutage_kept]
    exact State.rejoin_kept ..

end Sys2Proof.Machine
end

section
/-! Exhaustion of a search, of an admitted job at the ceiling and of a VERIFY below floor (R53, R98, R101, R102, R110). -/

namespace Sys2Proof.Machine

/-! ### Exhaustion as one write -/

/-- The record an exhaustion leaves, in BACKOFF up to the retry limit and HELD above it (R101, R102). -/
def TermRec.exhausted (r : TermRec) (limit base : Nat) : TermRec :=
  if min (r.retries + 1) 15 ≤ limit then
    { r with
      state := .backoff, retries := min (r.retries + 1) 15
      backoff := min (base * 2 ^ (min (min (r.retries + 1) 15 - 1) 5)) 65535 }
  else { r with state := .held, retries := min (r.retries + 1) 15 }

/-- The messages of an exhaustion: WITHDRAW for an admitted job (R101). -/
def Job.exhaustSends (j : Job) : List OutMsg := if j.phase.admitted then [.withdraw j.term] else []

theorem State.setTerm_eq_served (s : State) (t : TermId) (r : TermRec) : s.setTerm t r = s.served t r false [] s.engines := by
  unfold State.served State.setTerm
  dsimp only
  rw [List.append_nil]
  rfl

theorem State.exhaust_eq {s : State} {e : EngineId} {j : Job} (h : (s.term j.term).state = .active) :
    s.exhaust e j =
      s.served j.term ((s.term j.term).exhausted s.params.retryLimit s.params.backoffBase) true j.exhaustSends
        (s.setJob e none).engines := by
  have hsent : ∀ r : TermRec, (if j.phase.admitted = true then (s.setTerm j.term r).send (.withdraw j.term)
      else s.setTerm j.term r) = s.served j.term r false j.exhaustSends s.engines := fun r => by
    rw [State.setTerm_eq_served, State.served_send]
    unfold Job.exhaustSends
    split <;> rfl
  have hwritten : ∀ r, (s.served j.term r true j.exhaustSends s.engines).term j.term = r := fun r =>
    (s.served_term ..).trans (if_pos rfl)
  have hmoved : ∀ (r : TermRec) (a : TermState), r.state = .active →
      (s.served j.term r false j.exhaustSends s.engines).transition j.term .active a =
        s.served j.term { r with state := a } true j.exhaustSends s.engines := fun r a hr =>
    State.served_transition s j.term r false j.exhaustSends s.engines hr (by decide)
  unfold State.exhaust TermRec.exhausted
  dsimp only
  rw [hsent]
  generalize hr : ({ s.term j.term with retries := min ((s.term j.term).retries + 1) 15 } : TermRec) = r
  have hactive : r.state = .active := hr ▸ h
  rw [hmoved r _ hactive, hmoved r _ hactive, hwritten, State.served_setTerm]
  subst hr
  by_cases hlimit : min ((s.term j.term).retries + 1) 15 ≤ s.params.retryLimit
  · rw [if_pos (by exact hlimit), if_pos hlimit]
    rfl
  · rw [if_neg (by exact hlimit), if_neg hlimit]
    rfl

/-- What an exhaustion leaves at the end of its event, its job's phase being the one that it had (R101, R80). -/
theorem Work.close_exhausted {s v : State} {e : EngineId} {j i : Job} {r : TermRec} {ps : Vector (Option PollEntry) 8}
    (hlaw : CollectionsLaw s) (he : s.worker e = some j.term) (hr : r.state = .active) (ht : i.term = j.term)
    (hp : i.phase = j.phase)
    (hv : v = (Work.trigger ((({ s.mlHunt with polls := ps } : State).setTerm j.term r).exhaust e i)).close) :
    s.exhausted v e j r ∧ v.polls = ps := by
  subst hv
  have hx : (({ s.mlHunt with polls := ps } : State).setTerm j.term r).exhaust e i =
      ({ s.mlHunt with polls := ps } : State).served j.term (r.exhausted s.params.retryLimit s.params.backoffBase) true
        j.exhaustSends (s.setJob e none).engines := by
    rw [State.exhaust_eq (by rw [ht, State.setTerm_term_self]; exact hr), ht, State.setTerm_served, State.setTerm_term_self]
    unfold Job.exhaustSends
    rw [hp, ht]
    rfl
  rw [hx]
  have hserved : ∀ u, _ = if u = j.term then _ else s.term u := fun u =>
    ({ s.mlHunt with polls := ps } : State).served_term j.term u (r.exhausted s.params.retryLimit s.params.backoffBase) true
      j.exhaustSends (s.setJob e none).engines
  have hmarked := ({ s.mlHunt with polls := ps } : State).served_marked j.term j.term
    (r.exhausted s.params.retryLimit s.params.backoffBase) true j.exhaustSends (s.setJob e none).engines
  have habsent := (State.absent_of_idle hlaw he).congr (v := ({ s.mlHunt with polls := ps } : State).served j.term
    (r.exhausted s.params.retryLimit s.params.backoffBase) true j.exhaustSends (s.setJob e none).engines) rfl rfl rfl
  generalize hw : Work.trigger _ = w
  have hst := congrArg Work.st hw
  dsimp only [Work.trigger] at hst
  rw [hst] at hserved hmarked habsent
  obtain ⟨hsector, hout, hpolls, hmode, hwin⟩ := w.close_fields
  obtain ⟨hrec, hjobs⟩ := Work.close_absent habsent
  have hown : w.close.term j.term = r.exhausted s.params.retryLimit s.params.backoffBase :=
    hrec.trans ((hserved j.term).trans (if_pos rfl))
  obtain ⟨hrest, hport, hrx⟩ := State.frame_of_kept (s := s) (v := w.close) (w.close_kept.trans (by rw [← hst]; rfl))
  have hsent : s.outbox ++ j.exhaustSends =
      s.outbox ++ (if j.phase = .settle ∨ j.phase = .verify then [.withdraw j.term] else []) := by
    unfold Job.exhaustSends
    cases j.phase <;> rfl
  refine ⟨⟨fun hlimit => hown.trans (if_pos hlimit), fun hlimit => hown.trans (if_neg (Nat.not_le.mpr hlimit)),
    (hout.trans (by rw [← hst]; rfl)).trans hsent, (w.close_plays j.term).2 (hmarked.trans (by simp)),
    hmode.trans (by rw [← hst]; rfl), hsector.trans (by rw [← hst]; rfl), hwin.trans (by rw [← hst]; rfl), hjobs,
    (Work.close_sameButPlace_of hserved).2, ?_, hrest, hport, hrx⟩, hpolls.trans (by rw [← hst]; rfl)⟩
  rw [hown, ← hw]
  exact State.closedFrom_of_arbPart (due := true) rfl

/-- The case of a record that the event has not written before the exhaustion. -/
theorem Work.close_exhausted_self {s v : State} {e : EngineId} {j i : Job} {ps : Vector (Option PollEntry) 8}
    (hlaw : CollectionsLaw s) (he : s.job e = some j) (ht : i.term = j.term) (hp : i.phase = j.phase)
    (hv : v = (Work.trigger (({ s.mlHunt with polls := ps } : State).exhaust e i)).close) :
    s.exhausted v e j (s.term j.term) ∧ v.polls = ps := by
  have hworker := State.worker_of_job he
  refine Work.close_exhausted hlaw hworker (((collectionsLaw_iff s).mp hlaw).active hworker) ht hp ?_
  rw [hv, show ({ s.mlHunt with polls := ps } : State).setTerm j.term (s.term j.term) = { s.mlHunt with polls := ps } from
    State.setTerm_self _ _]

/-! ### Where a job exhausts -/

section Exhausts

variable {s : State} {e : EngineId} {j : Job} {g : Gate}

theorem Job.raiseLimit_ceiling (j : Job) : j.raiseLimit true = { j with limitCount := j.limitCount + 1 } := rfl

/-- A search gate not ACCEPTED at the ceiling, with the limit count raised to its limit (R98). -/
theorem State.judgeSearch_exhausts (h : g.responses = 0 ∨ g.depth * s.params.errLimit < g.errorTotal)
    (hceiling : (s.term j.term).pmax ≤ g.power) (hlimit : s.params.limitPolls ≤ j.limitCount + 1) :
    s.judgeSearch e j g = .trigger (s.exhaust e { j with limitCount := j.limitCount + 1 }) := by
  obtain ⟨v, -, -, hjudge⟩ := State.judgeSearch_missed (s := s) (e := e) (j := j) h
  rw [hjudge]
  unfold State.searchMissed
  simp only [hceiling, decide_true, Job.raiseLimit_ceiling, Job.limitReached, hlimit, Bool.and_self, if_true]

/-- The return to FINE with Pc at Pmax, with the limit count raised to its limit (R110). -/
theorem State.returnToFine_exhausts {power : Nat} (hceiling : (s.term j.term).pmax ≤ (s.term j.term).pc)
    (hlimit : s.params.limitPolls ≤ j.limitCount + 1) :
    s.returnToFine e j power = .trigger (s.exhaust e { j with limitCount := j.limitCount + 1 }) := by
  unfold State.returnToFine
  simp only [hceiling, decide_true, Job.raiseLimit_ceiling, Job.limitReached, hlimit, Bool.and_self, if_true]

/-- A SETTLE miss at the miss limit returns the job to FINE (R109). -/
theorem State.settleReport_returns {b : FrameNo} {o : Option Response}
    (h : ¬ j.admitFrame.any (fun a => earlier b a) = true) (ho : ¬ o.any (fun x => x.accepted s.params.errLimit) = true)
    (hlimit : s.params.missLimit ≤ min (j.settleMiss + 1) 15) :
    s.settleReport e j b o =
      s.returnToFine e { j with settleMiss := min (j.settleMiss + 1) 15 } (s.term j.term).pc :=
  ((if_neg h).trans (if_neg ho)).trans (if_pos hlimit)

/-- A VERIFY gate not ACCEPTED returns the job to FINE (R112). -/
theorem State.judgeVerify_returns (h : g.responses = 0 ∨ g.depth * s.params.errLimit < g.errorTotal) :
    s.judgeVerify e j g = s.returnToFine e j ((s.term j.term).pc + s.params.fineStep) := by
  unfold State.judgeVerify
  rcases g.verdict_cases s.params.errLimit with ⟨hv, -⟩ | ⟨-, h1, hlow⟩ | ⟨hv, -, -⟩
  · rw [hv]
  · omega
  · rw [hv]

/-- An ACCEPTED VERIFY gate with a direction below floor (R53). -/
theorem State.judgeVerify_belowFloor {F : Nat} (hr : 1 ≤ g.responses) (he : g.errorTotal ≤ g.depth * s.params.errLimit)
    (hF : F = smooth s.params.alpha (s.term j.term).fade
      (fadeSample (s.term j.term).refLevel g.power (g.levelSum.fdiv g.responses)))
    (hfloor : marginDown (s.term j.term).sd (downFade F s.params.ratio) < s.ladder.at 0 ∨
      (marginUp (s.term j.term).su g.power F < s.ladder.at 0 ∧ (s.term j.term).pc = (s.term j.term).pmax)) :
    s.judgeVerify e j g = .trigger ((s.setTerm j.term { s.term j.term with fade := F }).exhaust e j) := by
  unfold State.judgeVerify
  rw [Gate.verdict_accepted hr he]
  unfold State.verifyAccepted
  dsimp only
  have hfade : smooth s.params.alpha (s.term j.term).fade (g.sample (s.term j.term).refLevel) = F := hF.symm
  rw [hfade]
  simp only [State.setTerm_params, State.setTerm_ladder, belowFloor_either hfloor, if_true]

end Exhausts

/-- A response above the error limit, or none, is accepted nowhere (R31). -/
theorem not_accepted_any {o : Option Response} {limit : Nat} (h : ∀ x, o = some x → limit < x.errors) :
    ¬ o.any (fun x => x.accepted limit) = true := by
  cases o with
  | none => nofun
  | some x => simpa [Response.accepted] using h x rfl

/-- A BURST or a MISS is a report of its terminal (R151). -/
theorem exec_report {s : State} {c : Instr} {m errors : Byte} {b : FrameNo} {level : BitVec 16} {o : Option Response}
    (h : (c = .burst m b level errors ∧ o = some (receivedResponse level errors)) ∨ (c = .miss m b ∧ o = none)) :
    exec c s = .next (s.mlHunt.takeReport m b o) := by
  rcases h with ⟨rfl, rfl⟩ | ⟨rfl, rfl⟩
  · exact exec_burst s m errors b level
  · exact exec_miss s m b

/-- Settles O45: the three judgements each end in the exhaustion of the job, which is one write. -/
theorem jobsExhaust : Obligations.JobsExhaust := by
  refine ⟨fun s tag outcome errors level k e j g g' o hlaw hk ho h hg hdepth hmiss hceiling hlimit => ?_,
    fun s m errors b level t e j c o hlaw hm hh hc hreport hceiling hlimit => ?_,
    fun s m errors b level t e j g g' c F hlaw hm hh hp hg hfrom hc hdepth hresp herr hF hfloor => ?_⟩
  · subst hg
    refine ⟨_, exec_pollResult_judged hk ho h hdepth, ?_⟩
    rw [State.judgeSearch_exhausts (s := s.mlHunt.setPoll k none) (j := { j with pollInFlight := none }) hmiss hceiling hlimit]
    exact Work.close_exhausted_self (j := j) hlaw h.2.1 rfl rfl rfl
  · obtain rfl := hh.term_eq
    refine ⟨_, exec_report hc, ?_⟩
    rcases hreport with ⟨hp, hadmit, hreject, hmiss⟩ | ⟨hp, g, hg, hfrom, hdepth, hverdict⟩
    · refine Work.close_exhausted_self (i := { j with settleMiss := min (j.settleMiss + 1) 15, limitCount := j.limitCount + 1 })
        hlaw hh.2.2 rfl rfl ((State.takeReport_settle (s := s.mlHunt) hm hh hp).trans (congrArg Work.close ?_))
      rw [State.settleReport_returns (s := s.mlHunt) (not_earlier_any hadmit) (not_accepted_any hreject) hmiss]
      exact State.returnToFine_exhausts (s := s.mlHunt) hceiling hlimit
    · refine Work.close_exhausted_self (i := { j with limitCount := j.limitCount + 1 }) hlaw hh.2.2 rfl rfl
        ((State.takeReport_verify (s := s.mlHunt) hm hh hp).trans (congrArg Work.close ?_))
      rw [State.verifyReport_full hg (not_earlier_any hfrom) hdepth, State.judgeVerify_returns (s := s.mlHunt) hverdict]
      exact State.returnToFine_exhausts (s := s.mlHunt) hceiling hlimit
  · obtain ⟨o, hexec, rfl⟩ := exec_counted (s := s) hc
    obtain rfl := hh.term_eq
    refine ⟨_, hexec, Work.close_exhausted hlaw (State.worker_of_job hh.2.2) hh.1 rfl rfl
      ((State.takeReport_verify (s := s.mlHunt) hm hh hp).trans (congrArg Work.close ?_))⟩
    rw [State.verifyReport_full hg (not_earlier_any hfrom) hdepth]
    exact State.judgeVerify_belowFloor (s := s.mlHunt) hresp herr hF hfloor

end Sys2Proof.Machine
end

section
/-! What the engines' part of a mark leaves: the ramp ticks and the timeouts write the records of the engines' terminals
only, and of those neither the hold-off nor, where no command is due, the effective power (R51, R57, R106, R118). -/

namespace Sys2Proof.Machine

/-! ### A record under the engines' work -/

/-- The hold-off stays, and where a command issued now counts from another frame than `n` and none is due at `n`, the
effective power stays and none becomes due (R51, R57). -/
def TermRec.Clocked (n f : FrameNo) (r r' : TermRec) : Prop :=
  r'.holdOff = r.holdOff ∧ (f ≠ n → r.atEffect n = false → r'.pe = r.pe ∧ r'.atEffect n = false)

namespace TermRec.Clocked

variable {n f : FrameNo} {r r' r'' : TermRec}

theorem refl : Clocked n f r r := ⟨rfl, fun _ h => ⟨rfl, h⟩⟩

theorem trans (h : Clocked n f r r') (h' : Clocked n f r' r'') : Clocked n f r r'' := by
  obtain ⟨hhold, hpower⟩ := h
  obtain ⟨hhold', hpower'⟩ := h'
  refine ⟨hhold'.trans hhold, fun hf hdue => ?_⟩
  obtain ⟨hpe, hdue⟩ := hpower hf hdue
  obtain ⟨hpe', hdue⟩ := hpower' hf hdue
  exact ⟨hpe'.trans hpe, hdue⟩

/-- A record with the same hold-off, effective power and pending command. -/
theorem of_same (hhold : r'.holdOff = r.holdOff) (hpe : r'.pe = r.pe) (hcmd : r'.pendingCmd = r.pendingCmd) :
    Clocked n f r r' :=
  ⟨hhold, fun _ h => ⟨hpe, by unfold TermRec.atEffect at h ⊢; rwa [hcmd]⟩⟩

theorem completed : Clocked n f r (r.completed n) := by
  refine ⟨by rw [TermRec.completed_eq], fun _ h => ?_⟩
  have hstay : r.completed n = r := if_neg (by simp [h])
  rw [hstay]
  exact ⟨rfl, h⟩

/-- A command issued counts from the frame `f`. -/
theorem commanded {v : Nat} (hhold : r'.holdOff = r.holdOff) (hpe : r'.pe = r.pe) (hcmd : r'.pendingCmd = some ⟨v, f⟩) :
    Clocked n f r r' :=
  ⟨hhold, fun hf _ => ⟨hpe, by unfold TermRec.atEffect; simpa [hcmd] using hf⟩⟩

theorem admitted (found : Option Nat) (fu v : Nat) :
    Clocked n f r (({ r with foundPower := found, fade := fu } : TermRec).admittedAt v f) :=
  commanded (v := v) rfl rfl rfl

theorem transit {a b : TermState} : Clocked n f r (r.transit a b) := by
  unfold TermRec.transit
  split
  · exact of_same rfl rfl rfl
  · exact refl

end TermRec.Clocked

/-! ### A state under the engines' work -/

/-- From `s` to `v` the engines have worked on their own terminals (R106 to R108, R118): no engine has taken up a terminal, and
the other terminals, the queue, the mode and the loss window are as before. -/
structure State.EngineWork (s v : State) : Prop where
  kept : v.kept = s.kept
  mode : v.mode = s.mode
  lossWindow : v.lossWindow = s.lossWindow
  queue : v.queue = s.queue
  worker : ∀ e u, v.worker e = some u → s.worker e = some u
  records : ∀ u, (s.term u).Clocked s.lastFrame s.effectFrame (v.term u)
  others : ∀ u, (∀ e, s.worker e ≠ some u) → v.term u = s.term u ∧ v.marked u = s.marked u

namespace State.EngineWork

variable {s x v : State} {e : EngineId} {t : TermId} {r : TermRec}

theorem refl : EngineWork s s := ⟨rfl, rfl, rfl, rfl, fun _ _ => id, fun _ => .refl, fun _ _ => ⟨rfl, rfl⟩⟩

theorem trans (h : EngineWork s x) (h' : EngineWork x v) : EngineWork s v := by
  have heffect : x.effectFrame = s.effectFrame := by
    unfold State.effectFrame
    rw [kept_lastFrame h.kept, kept_params h.kept]
  refine ⟨h'.kept.trans h.kept, h'.mode.trans h.mode, h'.lossWindow.trans h.lossWindow, h'.queue.trans h.queue,
    fun e u he => h.worker e u (h'.worker e u he), fun u => ?_, fun u hu => ?_⟩
  · have hlater := h'.records u
    rw [kept_lastFrame h.kept, heffect] at hlater
    exact (h.records u).trans hlater
  · obtain ⟨hterm, hmarked⟩ := h.others u hu
    obtain ⟨hterm', hmarked'⟩ := h'.others u fun e he => hu e (h.worker e u he)
    exact ⟨hterm'.trans hterm, hmarked'.trans hmarked⟩

/-- No record written. -/
theorem still (hkept : v.kept = s.kept) (hmode : v.mode = s.mode) (hwin : v.lossWindow = s.lossWindow)
    (hqueue : v.queue = s.queue) (hworker : ∀ e u, v.worker e = some u → s.worker e = some u) (hterms : v.terms = s.terms)
    (hmarks : v.marks = s.marks) : EngineWork s v :=
  ⟨hkept, hmode, hwin, hqueue, hworker, fun u => State.term_congr hterms u ▸ .refl,
    fun u _ => ⟨State.term_congr hterms u, congrArg (fun ms : Vector Bool 64 => ms.get u) hmarks⟩⟩

/-- The record of an engine's terminal written. -/
theorem write (hown : s.worker e = some t) (hkept : v.kept = s.kept) (hmode : v.mode = s.mode)
    (hwin : v.lossWindow = s.lossWindow) (hqueue : v.queue = s.queue)
    (hworker : ∀ e u, v.worker e = some u → s.worker e = some u)
    (hterm : ∀ u, v.term u = if u = t then r else s.term u) (hmarks : ∀ u, u ≠ t → v.marked u = s.marked u)
    (hr : (s.term t).Clocked s.lastFrame s.effectFrame r) : EngineWork s v := by
  refine ⟨hkept, hmode, hwin, hqueue, hworker, fun u => ?_, fun u hu => ?_⟩
  · rw [hterm]
    split
    · next h => exact h ▸ hr
    · exact .refl
  · have hne : u ≠ t := fun h => hu e (h ▸ hown)
    exact ⟨(hterm u).trans (if_neg hne), hmarks u hne⟩

/-- A job of an engine written anew for the terminal it works on. -/
theorem setJob {j : Job} (h : s.worker e = some j.term) : EngineWork s (s.setJob e (some j)) :=
  still rfl rfl rfl rfl (fun f _ hf => (State.setJob_worker_same h f) ▸ hf) rfl rfl

theorem setPoll (s : State) (k : PollTag) (p : Option PollEntry) : EngineWork s (s.setPoll k p) :=
  still rfl rfl rfl rfl (fun _ _ => id) rfl rfl

theorem send (s : State) (m : OutMsg) : EngineWork s (s.send m) := still rfl rfl rfl rfl (fun _ _ => id) rfl rfl

theorem idle (s : State) (e : EngineId) : EngineWork s (s.setJob e none) := by
  refine still rfl rfl rfl rfl (fun f u hf => ?_) rfl rfl
  rw [State.setJob_worker] at hf
  split at hf
  · cases hf
  · exact hf

theorem noteCommand (s : State) (t : TermId) (f : FrameNo) : EngineWork s (s.noteCommand t f) :=
  still (s.noteCommand_kept t f) (arbKept_mode (s.noteCommand_arbKept t f)) (arbKept_lossWindow (s.noteCommand_arbKept t f))
    (s.noteCommand_queue t f) (fun e _ he => (s.noteCommand_worker t f e) ▸ he) (by rw [State.noteCommand_eq])
    (s.noteCommand_marks t f)

theorem setTerm (h : s.worker e = some t) (hr : (s.term t).Clocked s.lastFrame s.effectFrame r) : EngineWork s (s.setTerm t r) :=
  write h rfl rfl rfl rfl (fun _ _ => id) (fun u => s.setTerm_term t u r) (fun _ _ => rfl) hr

theorem transition {a b : TermState} (h : s.worker e = some t) : EngineWork s (s.transition t a b) := by
  refine write (r := (s.term t).transit a b) h (s.transition_kept t a b) (arbKept_mode (s.transition_arbKept t a b))
    (arbKept_lossWindow (s.transition_arbKept t a b)) (s.transition_queue t a b)
    (fun f _ hf => (s.transition_worker t a b f) ▸ hf) (fun u => ?_) (fun u hu => ?_) .transit
  · rw [State.transition_term_eq]
    split
    · next hu => rw [hu]
    · rfl
  · rw [State.transition_marked]
    simp [hu]

/-- One write of an engine's terminal, its mark, the messages and the engine's job. -/
theorem served {j : Job} {remark : Bool} {sent : List OutMsg} (h : s.worker e = some j.term)
    (hr : (s.term j.term).Clocked s.lastFrame s.effectFrame r) :
    EngineWork s (s.served j.term r remark sent (s.setJob e (some j)).engines) := by
  refine write h rfl rfl rfl rfl (fun f _ hf => (State.setJob_worker_same h f) ▸ hf)
    (fun u => s.served_term j.term u r remark sent _) (fun u hu => ?_) hr
  rw [State.served_marked]
  simp [hu]

/-! ### The engines' operations -/

theorem complete (h : s.worker e = some t) : EngineWork s (s.complete t) := setTerm h .completed

theorem requestPower {p : Nat} (h : s.worker e = some t) : EngineWork s (s.requestPower t p) := by
  by_cases hg : ((s.term t).completed s.lastFrame).grants p
  · rw [State.requestPower_issued s t hg]
    refine trans (trans (setTerm h ?_) (send _ _)) (noteCommand _ _ _)
    exact TermRec.Clocked.completed.trans (.commanded rfl rfl rfl)
  · rw [State.requestPower_refused s t p hg]
    exact complete h

/-- Exhaustion of an engine's job (R101). -/
theorem exhaust {j : Job} (h : s.worker e = some j.term) : EngineWork s (s.exhaust e j) := by
  have hstart : ∀ r, (s.term j.term).Clocked s.lastFrame s.effectFrame r →
      EngineWork s (if j.phase.admitted then (s.setTerm j.term r).send (.withdraw j.term) else s.setTerm j.term r) ∧
      (if j.phase.admitted then (s.setTerm j.term r).send (.withdraw j.term) else s.setTerm j.term r).worker e =
        some j.term := fun r hr => by
    split
    · exact ⟨(setTerm h hr).trans (send _ _), h⟩
    · exact ⟨setTerm h hr, h⟩
  unfold State.exhaust
  dsimp only
  obtain ⟨hwork, hown⟩ := hstart { s.term j.term with retries := min ((s.term j.term).retries + 1) 15 } (.of_same rfl rfl rfl)
  generalize (if j.phase.admitted = true then _ else _ : State) = x at hwork hown ⊢
  refine trans ?_ (idle _ _)
  split
  · refine (hwork.trans (transition hown)).trans (setTerm (e := e) ?_ (.of_same rfl rfl rfl))
    rwa [State.transition_worker]
  · exact hwork.trans (transition hown)

/-- The end of CONFIRM (R37, R100). -/
theorem endConfirm {j : Job} {p fu : Nat} (h : s.worker e = some j.term) : EngineWork s (s.endConfirm e j p fu) := by
  rw [State.endConfirm_eq rfl rfl rfl rfl]
  refine served (j := j.settling _ _ _ _ _ _) h ?_
  exact TermRec.Clocked.completed.trans (.admitted _ _ _)

/-- A ramp tick (R107). -/
theorem tickIfDue (s : State) (e : EngineId) : EngineWork s (s.tickIfDue e) := by
  rcases s.tickIfDue_cases e with h | ⟨j, rp, hj, -, -, -, h⟩
  · rw [h]
    exact refl
  · have hown := State.worker_of_job hj
    obtain ⟨x, j', htick, hterm, hx⟩ := s.rampTick_cases e j rp
    rw [h, htick]
    rcases hx with rfl | rfl | ⟨v, rfl⟩
    · exact setJob (hterm ▸ hown)
    · exact (complete hown).trans (setJob (hterm ▸ hown))
    · refine (complete hown).trans ((requestPower (s := s.complete j.term) (e := e) hown).trans (setJob ?_))
      rw [State.requestPower_worker, hterm]
      exact hown

/-- A search gate judged (R97). -/
theorem judgeSearch {j : Job} (h : s.worker e = some j.term) (g : Gate) : EngineWork s (s.judgeSearch e j g).st := by
  have hmissed : ∀ v, EngineWork s (s.searchMissed e j g v).st := fun v => by
    unfold State.searchMissed
    dsimp only
    split
    · exact exhaust (by rwa [Job.raiseLimit_term])
    · exact setJob (by rwa [Job.beginGate_eq, Job.raiseLimit_term])
  unfold State.judgeSearch
  split
  · rcases Nat.eq_zero_or_pos (if j.phase = .confirm then j.confirmLeft - 1 else s.params.confirmCount - 1) with hl | hl
    · rw [State.searchAccepted_ends hl]
      refine endConfirm ?_
      exact h
    · rw [State.searchAccepted_goes rfl hl]
      exact setJob (by rwa [Job.beginGate_eq])
  · exact hmissed _

/-- An outcome handed to its job (R96). -/
theorem handOutcome {j : Job} {o : Option Response} (h : s.worker e = some j.term) : EngineWork s (s.handOutcome e j o).st := by
  unfold State.handOutcome
  dsimp only
  split
  · exact setJob h
  · split
    · split
      · exact judgeSearch (j := { j with pollInFlight := none }) h _
      · exact setJob h
    · exact setJob h

/-- A timeout, whose outcome is SILENT (R118, R123, R129). -/
theorem timeoutIfDue (s : State) (k : PollTag) : EngineWork s (s.timeoutIfDue k).st := by
  have hfreed : EngineWork s (s.setPoll k none) := setPoll s k none
  unfold State.timeoutIfDue
  split
  · unfold State.takeOutcome
    split
    · exact refl
    · unfold State.matchOutcome
      split
      · unfold State.engineOutcome
        split
        · exact hfreed
        · split
          · exact hfreed
          · next j hj =>
            split
            · exact hfreed.trans (handOutcome (State.worker_of_job hj))
            · exact hfreed
      · unfold State.sweepOutcome
        split
        · exact hfreed
        · split
          · exact hfreed
          · exact hfreed
  · exact refl

theorem foldl {α : Type} {f : State → α → State} (hf : ∀ s a, EngineWork s (f s a)) (l : List α) :
    ∀ s, EngineWork s (l.foldl f s) := by
  induction l with
  | nil => exact fun _ => refl
  | cons a l ih => exact fun s => (hf s a).trans (ih _)

end State.EngineWork

/-! ### The expiries -/

/-- The record of a terminal whose backoff has expired (R103). -/
def TermRec.returned (r : TermRec) : TermRec := { r with state := .queued, backoff := 0, heard := false }

theorem State.expireBackoff_eq {s : State} {t : TermId} (h : s.backoffOver t = true) :
    s.expireBackoff t = .trigger (s.rejoin t (s.term t).returned) := by
  have hst := ((s.backoffOver_iff t).mp h).1
  unfold State.expireBackoff
  rw [if_pos h]
  dsimp only
  rw [State.join_setTerm_transition _ _ _ _ hst, State.transition_term_eq, if_pos rfl]
  simp [TermRec.transit, hst, TermRec.returned]

/-- From `s` to `v` some backoffs that are over have brought their terminals back to the queue, marked (R103), which takes the
sector out of CLEAR (R134). -/
structure State.Expires (s v : State) : Prop where
  kept : v.kept = s.kept
  lossWindow : v.lossWindow = s.lossWindow
  mode : v.mode = s.mode ∨ (s.mode = .clear ∧ ∃ u, s.backoffOver u = true)
  worker : ∀ e, v.worker e = s.worker e
  queue : ∀ u ∈ s.queue, u ∈ v.queue
  marks : ∀ u, s.marked u = true → v.marked u = true
  records : ∀ u, v.term u = s.term u ∨
    (s.backoffOver u = true ∧ v.term u = (s.term u).returned ∧ v.marked u = true ∧ u ∈ v.queue)

namespace State.Expires

variable {s x v : State}

theorem refl : Expires s s := ⟨rfl, rfl, .inl rfl, fun _ => rfl, fun _ => id, fun _ => id, fun _ => .inl rfl⟩

theorem trans (h : Expires s x) (h' : Expires x v) : Expires s v := by
  have hover : ∀ u, x.backoffOver u = true → s.backoffOver u = true ∧ x.term u = s.term u := fun u hu => by
    rcases h.records u with hsame | ⟨-, hback, -, -⟩
    · refine ⟨?_, hsame⟩
      unfold State.backoffOver at hu ⊢
      rwa [hsame] at hu
    · have hst := ((x.backoffOver_iff u).mp hu).1
      rw [hback] at hst
      cases hst
  refine ⟨h'.kept.trans h.kept, h'.lossWindow.trans h.lossWindow, ?_, fun e => (h'.worker e).trans (h.worker e),
    fun u hu => h'.queue u (h.queue u hu), fun u hu => h'.marks u (h.marks u hu), fun u => ?_⟩
  · rcases h.mode with hmode | hleaves
    · rcases h'.mode with hmode' | ⟨hclear, u, hu⟩
      · exact .inl (hmode'.trans hmode)
      · exact .inr ⟨hmode ▸ hclear, u, (hover u hu).1⟩
    · exact .inr hleaves
  · rcases h'.records u with hsame | ⟨hu, hback, hmark, hmem⟩
    · rw [hsame]
      exact (h.records u).imp_right fun ⟨hu, hback, hmark, hmem⟩ => ⟨hu, hback, h'.marks u hmark, h'.queue u hmem⟩
    · obtain ⟨hs, hterm⟩ := hover u hu
      exact .inr ⟨hs, hterm ▸ hback, hmark, hmem⟩

theorem expireBackoff (s : State) (t : TermId) : Expires s (s.expireBackoff t).st := by
  by_cases h : s.backoffOver t = true
  · rw [State.expireBackoff_eq h]
    show Expires s (s.rejoin t (s.term t).returned)
    have hmarked := s.rejoin_marked t
    have hmem := fun u => (s.rejoin_queue_perm t (s.term t).returned).mem_iff (a := u)
    refine ⟨State.rejoin_kept .., by rw [State.rejoin_eq]; rfl, ?_, fun e => State.worker_congr (s.rejoin_engines t _) e,
      fun u hu => (hmem u).mpr (List.mem_cons_of_mem t hu), fun u hu => by rw [hmarked, hu]; rfl, fun u => ?_⟩
    · rw [State.rejoin_eq]
      dsimp only
      split
      · next hclear => exact .inr ⟨hclear, t, h⟩
      · exact .inl rfl
    · rw [State.rejoin_term]
      split
      · next hu =>
        subst hu
        exact .inr ⟨h, rfl, by rw [hmarked]; simp, (hmem u).mpr (List.mem_cons_self ..)⟩
      · exact .inl rfl
  · unfold State.expireBackoff
    rw [if_neg h]
    exact refl

theorem foldl (l : List TermId) : ∀ w : Work,
    Expires w.st (l.foldl (fun (w : Work) t => w.andThen (fun s => s.expireBackoff t)) w).st := by
  induction l with
  | nil => exact fun _ => refl
  | cons t l ih => exact fun w => (expireBackoff w.st t).trans (ih (w.andThen fun s => s.expireBackoff t))

theorem expireAll (s : State) : Expires s.expireLosses s.expireAll.st :=
  foldl s.expireLosses.expiring (Work.quiet s.expireLosses)

end State.Expires

/-! ### The ends of a mark -/

/-- The ramp ticks and the timeouts of a mark are the engines' work. -/
theorem State.markEnds_engineWork (s : State) : s.expireAll.st.EngineWork s.markEnds.st := by
  have hfold : ∀ (l : List PollTag) (w : Work), w.st.EngineWork
      (l.foldl (fun (w : Work) k => w.andThen (fun s => s.timeoutIfDue k)) w).st := fun l => by
    induction l with
    | nil => exact fun _ => .refl
    | cons k l ih => exact fun w => (State.EngineWork.timeoutIfDue w.st k).trans (ih (w.andThen fun s => s.timeoutIfDue k))
  have hticked : s.expireAll.st.EngineWork s.tickAll.st := by
    rw [State.tickAll_st]
    exact .foldl State.EngineWork.tickIfDue _ _
  have htimed : s.tickAll.st.EngineWork s.timeAll.st := hfold allTags s.tickAll
  have hordered : ∀ (x : State) (n m : Nat), x.EngineWork (x.freeSendOrder n m) := fun _ _ _ =>
    .still rfl rfl rfl rfl (fun _ _ => id) rfl rfl
  rw [State.markEnds_st]
  exact (hticked.trans htimed).trans (hordered _ _ _)

theorem State.markEnds_kept (s : State) : s.markEnds.st.kept = s.kept :=
  s.markEnds_engineWork.kept.trans (State.Expires.expireAll s).kept

theorem State.markEnds_lossWindow (s : State) : s.markEnds.st.lossWindow = s.lossWindow.filter (· ≠ 0) :=
  s.markEnds_engineWork.lossWindow.trans (State.Expires.expireAll s).lossWindow

/-- The ends of a mark leave the mode where no backoff takes the sector out of CLEAR (R134). -/
theorem State.markEnds_mode {s : State} (h : s.mode = .clear → ∀ u, s.backoffOver u = false) :
    s.markEnds.st.mode = s.mode := by
  refine s.markEnds_engineWork.mode.trans ((State.Expires.expireAll s).mode.resolve_right ?_)
  rintro ⟨hclear, u, hu⟩
  have hnone : s.expireLosses.backoffOver u = false := h hclear u
  rw [hnone] at hu
  cases hu

/-- The hold-off and the effective power of any record after the ends of a mark. -/
theorem State.markEnds_clocked (s : State) (u : TermId) :
    (s.term u).Clocked s.lastFrame s.effectFrame (s.markEnds.st.term u) := by
  have hexpires := State.Expires.expireAll s
  have hreturned : (s.term u).Clocked s.lastFrame s.effectFrame (s.expireAll.st.term u) := by
    rcases hexpires.records u with h | ⟨-, h, -, -⟩
    · rw [h]
      exact .refl
    · rw [h]
      exact .of_same rfl rfl rfl
  have hwork := s.markEnds_engineWork.records u
  have heffect : s.expireAll.st.effectFrame = s.effectFrame := by
    unfold State.effectFrame
    rw [kept_lastFrame hexpires.kept, kept_params hexpires.kept]
    rfl
  rw [kept_lastFrame hexpires.kept, heffect] at hwork
  exact hreturned.trans hwork

/-- A terminal no engine holds after the ends of a mark: as before, or back in the queue where its backoff was over. -/
theorem State.markEnds_unheld {s : State} {u : TermId} (h : ∀ e, s.worker e ≠ some u) :
    (s.backoffOver u = false → s.markEnds.st.term u = s.term u) ∧
    (s.backoffOver u = true → s.markEnds.st.term u = (s.term u).returned ∧ s.markEnds.st.marked u = true ∧
      u ∈ s.markEnds.st.queue) := by
  have hexpires := State.Expires.expireAll s
  obtain ⟨hterm, hmarked⟩ := s.markEnds_engineWork.others u fun e he => h e (by rw [← he]; exact (hexpires.worker e).symm)
  rw [hterm, hmarked, s.markEnds_engineWork.queue]
  constructor
  · intro hover
    refine (hexpires.records u).resolve_right fun ⟨hu, _⟩ => ?_
    have hnone : s.expireLosses.backoffOver u = false := hover
    rw [hnone] at hu
    cases hu
  · intro hover
    rcases hexpires.records u with hsame | ⟨-, hback⟩
    · have hspent := s.expireAll_spent u
      unfold State.backoffOver at hover hspent
      rw [hsame] at hspent
      exact absurd hover (Bool.eq_false_iff.mp hspent)
    · exact hback

/-! ### The whole mark -/

/-- The state a mark's counts leave (R149). -/
def State.counted (s : State) (n : FrameNo) : State := (s.acceptMark n).countMark (s.isSlip n) n

/-- From `s` to `v` only what the slots of a mark write differs (R117, R120, R127). -/
def State.SlotsOnly (s v : State) : Prop :=
  v = { s with outbox := v.outbox, engines := v.engines, polls := v.polls, cursor := v.cursor }

theorem State.SlotsOnly.trans {s x v : State} (h : s.SlotsOnly x) (h' : x.SlotsOnly v) : s.SlotsOnly v := by
  unfold State.SlotsOnly at h h' ⊢
  rw [h'] 
  rw [h]

theorem State.allocate_slotsOnly (s : State) (slots : Nat) : s.SlotsOnly (s.allocate slots) := by
  have hengines : ∀ (l : List EngineId) (x : State) (slot : Nat), x.SlotsOnly (x.pollEngines slot l) := fun l => by
    induction l with
    | nil => exact fun _ _ => rfl
    | cons e l ih =>
      intro x slot
      refine State.SlotsOnly.trans ?_ (ih _ _)
      unfold State.pollEngine
      split <;> rfl
  have hsweep : ∀ (n : Nat) (x : State) (slot : Nat), x.SlotsOnly (x.pollSweep slot n) := fun n => by
    induction n with
    | zero => exact fun _ _ => rfl
    | succ n ih =>
      intro x slot
      unfold State.pollSweep
      split
      · next t k _ _ =>
        have hstep : x.SlotsOnly { x.issuePoll k t .sweep (x.sweepPower t) slot with cursor := numberOf t } := rfl
        exact hstep.trans (ih _ _)
      · rfl
  unfold State.allocate
  dsimp only
  split
  · exact (hengines _ _ _).trans (hsweep _ _ _)
  · exact hengines _ _ _

/-- A mark ends with its slots, and the free values of the next mark are fresh. -/
theorem State.frameMark_slots (s : State) (n : FrameNo) (slots : Nat) :
    ∃ x k, (s.counted n).markEnds.close.SlotsOnly x ∧ s.frameMark n slots = { x with freeIndex := k } :=
  ⟨_, _, State.allocate_slotsOnly _ _, rfl⟩

/-- The slots of a mark write no record, no mark, no place in the queue and not the sector's mode. -/
theorem State.SlotsOnly.fields {s x : State} (h : s.SlotsOnly x) :
    (∀ u, x.term u = s.term u) ∧ (∀ u, x.marked u = s.marked u) ∧ x.queue = s.queue ∧ x.mode = s.mode ∧
    x.lossWindow = s.lossWindow ∧ x.lastFrame = s.lastFrame ∧ x.modemSilent = s.modemSilent ∧
    x.silenceMs = s.silenceMs ∧ x.mlRx = s.mlRx := by
  unfold State.SlotsOnly at h
  rw [h]
  exact ⟨fun _ => rfl, fun _ => rfl, rfl, rfl, rfl, rfl, rfl, rfl, rfl⟩

section Mark

variable {s : State} {n : FrameNo} {slots : Nat} {u : TermId}

/-- What a mark leaves is what the ends of its operations leave, after their one evaluation. -/
theorem State.frameMark_fields (s : State) (n : FrameNo) (slots : Nat) :
    (∀ u, (s.frameMark n slots).term u = (s.counted n).markEnds.close.term u) ∧
    (∀ u, (s.frameMark n slots).marked u = (s.counted n).markEnds.close.marked u) ∧
    (s.frameMark n slots).queue = (s.counted n).markEnds.close.queue ∧
    (s.frameMark n slots).mode = (s.counted n).markEnds.st.mode ∧
    (s.frameMark n slots).lossWindow = (s.counted n).markEnds.st.lossWindow := by
  obtain ⟨-, -, -, hmode, hwin⟩ := (s.counted n).markEnds.close_fields
  obtain ⟨x, k, hslots, hmark⟩ := s.frameMark_slots n slots
  obtain ⟨hterm, hmarked, hqueue, hmode', hwin', -⟩ := hslots.fields
  rw [hmark, ← hmode, ← hwin]
  exact ⟨hterm, hmarked, hqueue, hmode', hwin'⟩

/-- The frame number, the silence detector and the modem link's receiver after a mark (R148, R150). -/
theorem State.frameMark_link (s : State) (n : FrameNo) (slots : Nat) :
    (s.frameMark n slots).lastFrame = n ∧ (s.frameMark n slots).modemSilent = false ∧
    (s.frameMark n slots).silenceMs = 0 ∧ (s.frameMark n slots).mlRx = s.mlRx := by
  have hkept : (s.counted n).markEnds.close.kept = (s.counted n).kept :=
    (Work.close_kept _).trans (State.markEnds_kept _)
  obtain ⟨x, k, hslots, hmark⟩ := s.frameMark_slots n slots
  obtain ⟨-, -, -, -, -, hframe, hsilent, hms, hrx⟩ := hslots.fields
  rw [hmark]
  exact ⟨hframe.trans (kept_lastFrame hkept), hsilent.trans (kept_modemSilent hkept), hms.trans (kept_silenceMs hkept),
    hrx.trans (kept_mlRx hkept :)⟩

theorem TermRec.sameButPlace.holdOff_eq {r r' : TermRec} (h : r.sameButPlace r') : r'.holdOff = r.holdOff := by
  unfold TermRec.sameButPlace at h
  exact (congrArg TermRec.holdOff h :)

theorem TermRec.sameButPlace.pe_eq {r r' : TermRec} (h : r.sameButPlace r') : r'.pe = r.pe := by
  unfold TermRec.sameButPlace at h
  exact (congrArg TermRec.pe h :)

/-- A mark leaves each record as the ends of its operations do, but for its place. -/
theorem State.frameMark_sameButPlace (s : State) (n : FrameNo) (slots : Nat) (u : TermId) :
    ((s.counted n).markEnds.st.term u).sameButPlace ((s.frameMark n slots).term u) := by
  rw [(s.frameMark_fields n slots).1]
  exact Work.close_sameButPlace ..

/-- The pending command that a mark of number `n` leaves (R57, R61). -/
def TermRec.stillPending (r : TermRec) (slip : Bool) (n : FrameNo) : Option PowerCmd :=
  if slip then none else r.pendingCmd.filter (fun c => c.effect ≠ n)

/-- The ambiguity window that a mark of number `n` leaves (R57, R61). -/
def TermRec.stillAmbiguous (r : TermRec) (slip : Bool) (n : FrameNo) : Option FrameNo :=
  if slip then none else r.ambigUntil.filter (fun f => f ≠ n)

theorem State.counted_term (s : State) (n : FrameNo) (u : TermId) :
    (s.counted n).term u = { s.term u with
      holdOff := (s.term u).holdOff - 1
      backoff := if (s.term u).state = .backoff then (s.term u).backoff - 1 else (s.term u).backoff
      pe := if (s.term u).stillPending (s.isSlip n) n = none
        then ((s.term u).pendingCmd.map PowerCmd.value).getD (s.term u).pe else (s.term u).pe
      pendingCmd := (s.term u).stillPending (s.isSlip n) n, ambigUntil := (s.term u).stillAmbiguous (s.isSlip n) n } :=
  (State.countMark_term ..).trans (TermRec.marked_eq _ _ _ rfl rfl)

/-- After the counts of a mark no command is due at its number (R57, R61). -/
theorem State.counted_notDue (s : State) (n : FrameNo) (u : TermId) : ((s.counted n).term u).atEffect n = false := by
  rw [State.counted_term]
  unfold TermRec.atEffect TermRec.stillPending
  dsimp only
  split
  · rfl
  · cases (s.term u).pendingCmd with
    | none => rfl
    | some c => by_cases hc : c.effect = n <;> simp [Option.filter, hc]

/-- A command issued on a mark counts from a later frame (R56). -/
theorem State.counted_effectFrame (h1 : 1 ≤ s.params.latency) (h8 : s.params.latency ≤ 8) :
    (s.counted n).effectFrame ≠ (s.counted n).lastFrame := by
  have heffect : (s.counted n).effectFrame = n + BitVec.ofNat 16 s.params.latency := rfl
  have hframe : (s.counted n).lastFrame = n := rfl
  rw [heffect, hframe]
  bv_omega

/-- The hold-off after a mark (R51). -/
theorem State.frameMark_holdOff (s : State) (n : FrameNo) (slots : Nat) (u : TermId) :
    ((s.frameMark n slots).term u).holdOff = (s.term u).holdOff - 1 := by
  obtain ⟨hhold, -⟩ := (s.counted n).markEnds_clocked u
  calc ((s.frameMark n slots).term u).holdOff = ((s.counted n).markEnds.st.term u).holdOff :=
        (s.frameMark_sameButPlace n slots u).holdOff_eq
    _ = ((s.counted n).term u).holdOff := hhold
    _ = (s.term u).holdOff - 1 := by rw [State.counted_term]

/-- The effective power after a mark (R57, R61): the mark's other work moves it no further. -/
theorem State.frameMark_pe (h1 : 1 ≤ s.params.latency) (h8 : s.params.latency ≤ 8) :
    ((s.frameMark n slots).term u).pe = if (s.term u).stillPending (s.isSlip n) n = none
      then ((s.term u).pendingCmd.map PowerCmd.value).getD (s.term u).pe else (s.term u).pe := by
  obtain ⟨-, hpower⟩ := (s.counted n).markEnds_clocked u
  obtain ⟨hpe, -⟩ := hpower (State.counted_effectFrame h1 h8) (s.counted_notDue n u)
  calc ((s.frameMark n slots).term u).pe = ((s.counted n).markEnds.st.term u).pe :=
        (s.frameMark_sameButPlace n slots u).pe_eq
    _ = ((s.counted n).term u).pe := hpe
    _ = _ := by rw [State.counted_term]

theorem State.isSlip_false (h : n = s.lastFrame + 1) : s.isSlip n = false := decide_eq_false (not_not.mpr h)

theorem State.isSlip_true (h : n ≠ s.lastFrame + 1) : s.isSlip n = true := decide_eq_true h

/-- In a CLEAR sector no backoff runs (R135). -/
theorem State.counted_backoffOver (hlaw : ModeLaw s) (hclear : s.mode = .clear) (u : TermId) :
    (s.counted n).backoffOver u = false := by
  have hwaits : ∀ t, (s.term t).state.waiting = false := fun t =>
    Bool.eq_false_iff.mpr fun ht => by
      have hsome := (s.someWaiting_iff).mpr ⟨t, ht⟩
      rw [hlaw.mp hclear] at hsome
      cases hsome
  refine Bool.eq_false_iff.mpr fun hover => ?_
  have hst : (s.term u).state = .backoff := by
    have hcounted := ((State.backoffOver_iff _ _).mp hover).1
    rwa [State.counted_term] at hcounted
  have hwait := hwaits u
  rw [hst] at hwait
  cases hwait

end Mark

/-- Settles O31: the counts set the clocks, and the rest of the mark moves none of them. -/
theorem frameMarkClocks : Obligations.FrameMarkClocks := by
  intro n slots s hlaw h1 h8
  obtain ⟨hframe, hsilent, hms, hrx⟩ := s.mlHunt.frameMark_link n slots.toNat
  obtain ⟨-, -, -, hmode, hwin⟩ := s.mlHunt.frameMark_fields n slots.toNat
  have hpe : ∀ u, _ = _ := fun u => State.frameMark_pe (s := s.mlHunt) (n := n) (slots := slots.toNat) (u := u) h1 h8
  refine ⟨s.mlHunt.frameMark n slots.toNat, rfl, hframe, hsilent, hms, hrx, hwin.trans (State.markEnds_lossWindow _),
    hmode.trans (State.markEnds_mode fun hclear => State.counted_backoffOver (s := s.mlHunt) hlaw hclear),
    s.mlHunt.frameMark_holdOff n slots.toNat, fun hn u => ?_, fun hn u => ?_⟩
  · have hrec : s.mlHunt.term u = s.term u := rfl
    rw [hpe, State.isSlip_false (s := s.mlHunt) hn, hrec]
    unfold TermRec.stillPending
    cases (s.term u).pendingCmd with
    | none => simp
    | some c => by_cases hc : c.effect = n <;> simp [Option.filter, hc]
  · have hrec : s.mlHunt.term u = s.term u := rfl
    rw [hpe, State.isSlip_true (s := s.mlHunt) hn, hrec]
    unfold TermRec.stillPending
    cases (s.term u).pendingCmd with
    | none => rfl
    | some c => rfl

end Sys2Proof.Machine
end

section
/-! A frame mark on the terminals that no engine holds, and on the backoffs (R51, R57, R61, R103, R149). -/

namespace Sys2Proof.Machine

theorem Work.close_held_queue {w : Work} (h : w.st.hold = true) : w.close.queue = w.st.queue := by
  rw [Work.close_held h]
  rfl

/-! ### A terminal out of play -/

/-- The acts of a mark's ends keep the three collections rosters (R6). -/
theorem State.markEnds_placed {s : State} (h : s.Placed False) : s.markEnds.st.Placed False :=
  (s.expireAll_acts.trans s.markEnds_acts).keeps (fun _ _ hact hx => hact.placed nofun hx) h

/-- A terminal neither QUEUED nor ACTIVE nor SUSPENDED is in no collection (R6). -/
theorem State.Placed.absent {full : Prop} {s : State} {u : TermId} (h : s.Placed full)
    (hu : (s.term u).state.inPlay = false) : s.Absent u := by
  refine ⟨fun hq => ?_, fun e he => ?_, fun hk => ?_⟩
  · rw [h.queued hq] at hu
    cases hu
  · rw [h.active he] at hu
    cases hu
  · rw [h.suspended hk] at hu
    cases hu

section Unheld

variable {s : State} {n : FrameNo} {slots : Nat} {u : TermId}

theorem State.counted_placed (n : FrameNo) (h : CollectionsLaw s) : (s.counted n).Placed False :=
  State.countMark_placed _ _ ((collectionsLaw_iff (s.acceptMark n)).mp h).weaken

theorem State.counted_state (s : State) (n : FrameNo) (u : TermId) : ((s.counted n).term u).state = (s.term u).state := by
  rw [State.counted_term]

theorem State.counted_unheld (h : CollectionsLaw s) (hu : (s.term u).state ≠ .active) (e : EngineId) :
    (s.counted n).worker e ≠ some u := fun he =>
  hu ((s.counted_state n u).symm.trans ((State.counted_placed n h).active he))

/-- A backoff is over on a mark where it stood at 1 or less (R103). -/
theorem State.counted_over (s : State) (n : FrameNo) (u : TermId) :
    (s.counted n).backoffOver u = decide ((s.term u).state = .backoff ∧ (s.term u).backoff ≤ 1) := by
  refine Bool.eq_iff_iff.mpr ?_
  rw [State.backoffOver_iff, State.counted_term, decide_eq_true_iff]
  dsimp only
  refine and_congr_right fun hst => ?_
  rw [if_pos hst]
  omega

/-- A terminal that no collection holds after the counts keeps the record that they leave. -/
theorem State.frameMark_absent (h : CollectionsLaw s) (hu : (s.term u).state.inPlay = false)
    (hover : (s.counted n).backoffOver u = false) : (s.frameMark n slots).term u = (s.counted n).term u := by
  have hactive : (s.term u).state ≠ .active := fun ha => by
    rw [ha] at hu
    cases hu
  have hends := ((s.counted n).markEnds_unheld (State.counted_unheld h hactive)).1 hover
  have habsent : (s.counted n).markEnds.st.Absent u := by
    refine (State.markEnds_placed (State.counted_placed n h)).absent ?_
    rw [hends, State.counted_state]
    exact hu
  calc (s.frameMark n slots).term u = (s.counted n).markEnds.close.term u := (s.frameMark_fields n slots).1 u
    _ = (s.counted n).markEnds.st.term u := (Work.close_absent habsent).1
    _ = (s.counted n).term u := hends

/-- A backoff that is over brings its terminal back (R103), which the evaluation may give to an engine. -/
theorem State.frameMark_returned (h : CollectionsLaw s) (hst : (s.term u).state = .backoff) (hb : (s.term u).backoff ≤ 1) :
    ((s.counted n).term u).returned.sameButPlace ((s.frameMark n slots).term u) ∧
    ((s.frameMark n slots).term u).state ∈ [TermState.queued, .active, .suspended] ∧
    ((s.frameMark n slots).term u).heard = false ∧ (s.frameMark n slots).marked u = true ∧
    (s.hold = true → u ∈ (s.frameMark n slots).queue) := by
  obtain ⟨hterm, hmarked, hqueue, -, -⟩ := s.frameMark_fields n slots
  have hover : (s.counted n).backoffOver u = true := (s.counted_over n u).trans (decide_eq_true ⟨hst, hb⟩)
  have hactive : (s.term u).state ≠ .active := fun ha => by
    rw [hst] at ha
    cases ha
  obtain ⟨hback, hmark, hmem⟩ := ((s.counted n).markEnds_unheld (State.counted_unheld h hactive)).2 hover
  obtain ⟨⟨hplay, hheard⟩, hmarks⟩ := (s.counted n).markEnds.close_plays u
  have hsame := s.frameMark_sameButPlace n slots u
  rw [hback] at hplay hheard hsame
  rw [hmarked, hqueue]
  refine ⟨hsame, ?_, ?_, hmarks hmark, fun hhold => ?_⟩
  · rw [hterm]
    exact (TermState.inPlay_iff _).mp (hplay rfl)
  · rw [hterm]
    exact hheard rfl
  · have hheld : (s.counted n).markEnds.st.hold = true := (kept_hold (State.markEnds_kept _)).trans hhold
    rw [Work.close_held_queue hheld]
    exact hmem

/-- A mark on the record of a terminal no engine holds: the counts, its place and its backoff. -/
theorem State.frameMark_record (h : CollectionsLaw s) (hu : (s.term u).state ≠ .active) :
    ∃ b, (s.frameMark n slots).term u = { (s.counted n).term u with
        state := ((s.frameMark n slots).term u).state, heard := ((s.frameMark n slots).term u).heard, backoff := b } ∧
      ((s.term u).state ≠ .backoff → b = (s.term u).backoff) := by
  obtain ⟨hstays, hreturns⟩ := (s.counted n).markEnds_unheld (State.counted_unheld h hu)
  have hsame := s.frameMark_sameButPlace n slots u
  unfold TermRec.sameButPlace at hsame
  cases hover : (s.counted n).backoffOver u with
  | false =>
    rw [hstays hover] at hsame
    refine ⟨_, hsame, fun hne => ?_⟩
    rw [State.counted_term]
    exact if_neg hne
  | true =>
    rw [(hreturns hover).1] at hsame
    refine ⟨0, hsame, fun hne => ?_⟩
    rw [State.counted_over, decide_eq_true_iff] at hover
    exact absurd hover.1 hne

/-- A terminal in one of the states that a mark leaves is out of play, and no backoff of it runs (R103). -/
theorem State.counted_settled (hu : (s.term u).state ∈ [TermState.unused, .serving, .held, .barred]) :
    (s.term u).state.inPlay = false ∧ (s.counted n).backoffOver u = false := by
  have hstates : ∀ a ∈ [TermState.unused, .serving, .held, .barred], a.inPlay = false ∧ a ≠ .backoff := by decide
  obtain ⟨hout, hne⟩ := hstates _ hu
  exact ⟨hout, (s.counted_over n u).trans (decide_eq_false fun hover => hne hover.1)⟩

end Unheld

/-- Settles O32: the counts write the record, and an expiry and the evaluation write no more of it than place and backoff. -/
theorem frameMarkOnTerminals : Obligations.FrameMarkOnTerminals := by
  intro n slots s hlaw
  have hlaw : CollectionsLaw s.mlHunt := hlaw
  obtain ⟨v, hv⟩ : ∃ v, v = s.mlHunt.frameMark n slots.toNat := ⟨_, rfl⟩
  refine ⟨v, congrArg Host.Outcome.next hv.symm, fun u hactive => ?_, fun u hst => ⟨fun h2 => ?_, fun h1 => ?_⟩⟩
  · have hrecord := s.mlHunt.frameMark_record (n := n) (slots := slots.toNat) hlaw hactive
    rw [← hv] at hrecord
    obtain ⟨b, hterm, hbackoff⟩ := hrecord
    rw [State.counted_term] at hterm
    refine ⟨_, _, b, _, _, hterm, fun hn => ?_, fun hn => ?_, hbackoff, fun hplace => ?_⟩
    · rw [State.isSlip_false (s := s.mlHunt) hn]
      exact ⟨rfl, rfl⟩
    · rw [State.isSlip_true (s := s.mlHunt) hn]
      exact ⟨rfl, rfl⟩
    · obtain ⟨hout, hover⟩ := State.counted_settled (s := s.mlHunt) (n := n) hplace
      have hstays := State.frameMark_absent (slots := slots.toNat) hlaw hout hover
      rw [← hv, State.counted_term] at hstays
      rw [hstays]
      exact ⟨rfl, rfl⟩
  · have hstays := State.frameMark_absent (s := s.mlHunt) (n := n) (slots := slots.toNat) (u := u) hlaw
      (congrArg TermState.inPlay hst) ((s.mlHunt.counted_over n u).trans (decide_eq_false fun h => Nat.not_le.mpr h2 h.2))
    rw [← hv, State.counted_term] at hstays
    rw [hstays]
    exact ⟨hst, if_pos hst⟩
  · obtain ⟨hsame, hplay, hheard, hmarked, hqueue⟩ :=
      State.frameMark_returned (s := s.mlHunt) (n := n) (slots := slots.toNat) hlaw hst h1
    rw [← hv] at hsame hplay hheard hmarked hqueue
    refine ⟨hplay, ?_, hheard, hmarked, ?_, ?_, hqueue⟩
    · rw [hsame]
      rfl
    · rw [hsame, State.counted_term]
      rfl
    · rw [hsame, State.counted_term]
      rfl

end Sys2Proof.Machine
end

section
/-! The law of the power fields (R55) for one record: what the model writes into a record keeps it. -/

namespace Sys2Proof.Machine

/-- The law of R55 for one record: Pc is the pending value or Pe, within Pmax, and F is at most 240. -/
def TermRec.Powered (r : TermRec) : Prop :=
  r.pc = (r.pendingCmd.map PowerCmd.value).getD r.pe ∧ r.pc ≤ r.pmax ∧ r.fade ≤ 240

theorem powerLaw_iff (s : State) : PowerLaw s ↔ ∀ t, (s.term t).Powered := Iff.rfl

namespace TermRec.Powered

variable {r r' : TermRec} {n f : FrameNo} {v : Nat}

/-- The law does not speak of the place of a record. -/
theorem of_core (h : r.Powered) (hr : r'.core = r.core) : r'.Powered := by
  rw [TermRec.core_eq hr]
  exact h

theorem transit {a b : TermState} (h : r.Powered) : (r.transit a b).Powered := by
  unfold TermRec.transit
  split <;> exact h

/-- The pending value comes into force: Pe takes it, and Pc is it already (R57). -/
theorem effective (h : r.Powered) : r.effective.Powered := by
  obtain ⟨hpc, hmax, hfade⟩ := h
  unfold TermRec.effective
  split
  · next c hc => exact ⟨by simpa [hc] using hpc, hmax, hfade⟩
  · exact ⟨hpc, hmax, hfade⟩

theorem completed (h : r.Powered) : (r.completed n).Powered := by
  unfold TermRec.completed
  split
  · exact h.effective
  · exact h

theorem windowClosed (h : r.Powered) : (r.windowClosed n).Powered := by
  unfold TermRec.windowClosed
  split <;> exact h

theorem powerMark (h : r.Powered) (slip : Bool) : (r.powerMark slip n).Powered := by
  unfold TermRec.powerMark
  split
  · exact h.effective
  · exact h.completed.windowClosed

/-- A command issued within Pmax sets Pc to its value, whatever Pc was (R55, R56). -/
theorem issued (hv : v ≤ r.pmax) (hfade : r.fade ≤ 240) : (r.issued v f).Powered := ⟨rfl, hv, hfade⟩

theorem superseded (hfade : r.fade ≤ 240) : (r.superseded (r.issueValue v) f).Powered :=
  ⟨rfl, r.issueValue_le v, hfade⟩

theorem faded {fade : Nat} (h : r.Powered) (hfade : fade ≤ 240) : ({ r with fade := fade } : TermRec).Powered := by
  obtain ⟨hpc, hmax, -⟩ := h
  exact ⟨hpc, hmax, hfade⟩

theorem powerOn : TermRec.powerOn.Powered := ⟨rfl, Nat.le_refl _, Nat.zero_le _⟩

/-- PROVISION sets Pc and Pe to the start power, which the clamps of R2 bring within Pmax (R10, R62). -/
theorem provisioned (body : List Byte) : (provisionedRec body).Powered := by
  obtain ⟨-, -, hstart, -⟩ := (provisionedAt body).clamped_ranges
  exact ⟨rfl, hstart, Nat.zero_le _⟩

end TermRec.Powered

end Sys2Proof.Machine
end

section
/-! The law of the power fields (R55) is kept by every operation. Commands are issued within Pmax (R55, R56); AMEND alone
lowers Pmax below Pc, and clamps Pc in the same event (R15, R60). -/

namespace Sys2Proof.Machine

namespace PowerLaw

variable {s v : State} {t : TermId} {r : TermRec} {e : EngineId} {j : Job}

/-- The law speaks of the records only. -/
theorem rest (h : PowerLaw s) (ht : v.terms = s.terms := by rfl) : PowerLaw v := fun u => by
  rw [State.term_congr ht]
  exact h u

/-- The law does not speak of the places of the records. -/
theorem places (h : PowerLaw s) (hv : ∀ u, (v.term u).core = (s.term u).core) : PowerLaw v :=
  fun u => TermRec.Powered.of_core (h u) (hv u)

theorem setTerm (h : PowerLaw s) (hr : r.Powered) : PowerLaw (s.setTerm t r) := fun u => by
  rw [State.setTerm_term]
  split
  · exact hr
  · exact h u

/-- A record is written from the one before it. -/
theorem edit (h : PowerLaw s) (hr : (s.term t).Powered → r.Powered := by exact id) : PowerLaw (s.setTerm t r) :=
  h.setTerm (hr (h t))

theorem complete (h : PowerLaw s) : PowerLaw (s.complete t) := h.edit fun ht => ht.completed

theorem transition {a b : TermState} (h : PowerLaw s) : PowerLaw (s.transition t a b) := fun u => by
  have hu : (s.term u).Powered := h u
  rw [State.transition_term_eq]
  split
  · exact hu.transit
  · exact hu

theorem idle (h : PowerLaw s) : PowerLaw (s.setJob e none) := h.rest

theorem setMode {m : Mode} (h : PowerLaw s) : PowerLaw (s.setMode m) := by
  unfold State.setMode
  split <;> exact h.rest

theorem join (h : PowerLaw s) : PowerLaw (s.join t) := h.rest (s.join_fields t).2.1

theorem writeProfiles {up down : Nat} (h : PowerLaw s) : PowerLaw (s.writeProfiles t up down) := by
  have hw : PowerLaw (s.setTerm t { s.term t with up := up, down := down }) := h.edit
  unfold State.writeProfiles
  dsimp only
  split <;> exact hw.rest

theorem close {w : Work} (h : PowerLaw w.st) : PowerLaw w.close := h.places w.close_core

theorem checkClear {w : Work} (h : PowerLaw w.st) : PowerLaw w.checkClear.st := by
  unfold Work.checkClear
  split
  · exact h
  · exact h.setMode

theorem checkClearIf {w : Work} {left : Bool} (h : PowerLaw w.st) : PowerLaw (w.checkClearIf left).st := by
  unfold Work.checkClearIf
  split
  · exact h.checkClear
  · exact h

/-! ### Power commands -/

/-- A command issued for terminal `t`, sent and noted (R56). -/
theorem command {m : OutMsg} {f : FrameNo} (h : PowerLaw s) (hr : r.Powered) :
    PowerLaw (((s.setTerm t r).send m).noteCommand t f) :=
  (h.setTerm hr).places fun u => by rw [State.noteCommand_term]; rfl

theorem requestPower {p : Nat} (h : PowerLaw s) : PowerLaw (s.requestPower t p) := by
  have hc : PowerLaw (s.complete t) := h.complete
  unfold State.requestPower
  dsimp only
  split
  · exact hc
  · split
    · exact hc
    · exact hc.command (.issued (TermRec.issueValue_le _ _) (hc t).2.2)

theorem admitTerm {p : Nat} (h : PowerLaw s) : PowerLaw (s.admitTerm t p) := by
  have hc : PowerLaw (s.complete t) := h.complete
  exact (hc.setTerm (.superseded (hc t).2.2)).writeProfiles.rest

/-! ### Loss -/

theorem enterOutage (h : PowerLaw s) : PowerLaw s.enterOutage := h.places fun u => by
  rw [State.enterOutage_term]
  refine Eq.trans ?_ (s.abandonAll_core u)
  split <;> rfl

theorem offerLoss (h : PowerLaw s) : PowerLaw s.offerLoss := by
  unfold State.offerLoss
  split
  · exact h
  · dsimp only
    split
    · exact enterOutage h.rest
    · exact h.rest

theorem lose {reason : LossReason} (h : PowerLaw s) : PowerLaw (s.lose t reason) := by
  have hc : PowerLaw ((s.complete t).send (.withdraw t)) := h.complete.rest
  unfold State.lose
  dsimp only
  split
  · exact hc.edit.transition.join
  · exact hc.edit.transition.join.offerLoss

/-! ### The engines -/

theorem exhaust (h : PowerLaw s) : PowerLaw (s.exhaust e j) := fun u => by
  have ht : (s.term j.term).Powered := h j.term
  rw [State.exhaust_term]
  split
  · unfold TermRec.spent
    dsimp only
    split <;> exact TermRec.Powered.transit ht
  · exact h u

theorem returnToFine {power : Nat} (h : PowerLaw s) : PowerLaw (s.returnToFine e j power).st := by
  unfold State.returnToFine
  dsimp only
  split
  · exact h.exhaust
  · exact h.rest

theorem endConfirm {p fu : Nat} (h : PowerLaw s) (hfu : fu ≤ 240) : PowerLaw (s.endConfirm e j p fu) := by
  have hfound : PowerLaw (s.setTerm j.term
      { s.term j.term with foundPower := some (clampNat 0 (s.term j.term).pmax p), fade := fu }) :=
    h.edit fun ht => ht.faded hfu
  unfold State.endConfirm State.beginSettle
  dsimp only
  split <;> exact hfound.admitTerm.rest

theorem tickIfDue (h : PowerLaw s) : PowerLaw (s.tickIfDue e) := by
  rcases s.tickIfDue_cases e with hnone | ⟨j, rp, -, -, -, -, hdue⟩
  · rw [hnone]
    exact h
  · obtain ⟨x, j', htick, -, hx⟩ := s.rampTick_cases e j rp
    rw [hdue, htick]
    rcases hx with rfl | rfl | ⟨p, rfl⟩
    · exact h.rest
    · exact h.complete.rest
    · exact h.complete.requestPower.rest

theorem settleReport {b : FrameNo} {o : Option Response} (h : PowerLaw s) : PowerLaw (s.settleReport e j b o).st := by
  unfold State.settleReport
  split
  · exact h
  · split
    · exact h.rest
    · dsimp only
      split
      · exact h.returnToFine
      · exact h.rest

theorem handBack {up down : Nat} (h : PowerLaw s) : PowerLaw (s.handBack e t up down).st := by
  have hsent : PowerLaw ((s.writeProfiles t up down).send (.profile t up down)) := h.writeProfiles.rest
  unfold State.handBack
  exact checkClear (w := .trigger _) hsent.edit.transition.edit.idle

theorem judgeVerify {g : Gate} (h : PowerLaw s) : PowerLaw (s.judgeVerify e j g).st := by
  unfold State.judgeVerify State.verifyAccepted
  split
  · have hfade : PowerLaw (s.setTerm j.term { s.term j.term with
        fade := smooth s.params.alpha (s.term j.term).fade (g.sample (s.term j.term).refLevel) }) :=
      h.edit fun ht => ht.faded (smooth_le _ _ _)
    dsimp only
    split
    · exact hfade.exhaust
    · exact hfade.handBack
  · exact h.returnToFine

theorem verifyReport {b : FrameNo} {o : Option Response} (h : PowerLaw s) : PowerLaw (s.verifyReport e j b o).st := by
  unfold State.verifyReport
  split
  · exact h
  · split
    · exact h
    · dsimp only
      split
      · exact h.judgeVerify
      · exact h.rest

theorem judgeSearch {g : Gate} (h : PowerLaw s) : PowerLaw (s.judgeSearch e j g).st := by
  unfold State.judgeSearch
  split
  · unfold State.searchAccepted
    dsimp only
    generalize (if j.phase = .confirm then j.confirmLeft - 1 else s.params.confirmCount - 1) = left
    split
    · exact h.endConfirm (Gate.sample_le _ _)
    · exact h.rest
  · unfold State.searchMissed
    dsimp only
    split
    · exact h.exhaust
    · exact h.rest

theorem handOutcome {o : Option Response} (h : PowerLaw s) : PowerLaw (s.handOutcome e j o).st := by
  unfold State.handOutcome
  dsimp only
  split
  · exact h.rest
  · split
    · split
      · exact h.judgeSearch
      · exact h.rest
    · exact h.rest

/-! ### Traffic -/

theorem trackPower {target : Nat} (h : PowerLaw s) : PowerLaw (s.trackPower t target) := by
  unfold State.trackPower
  dsimp only
  split
  · exact h
  · split <;> exact h.requestPower

theorem takePair {up down : Nat} {upgraded : Bool} (h : PowerLaw s) : PowerLaw (s.takePair t up down upgraded) := by
  have hload : PowerLaw (if upgraded then s.setTerm t { s.term t with holdOff := s.params.holdOffLoad } else s) := by
    split
    · exact h.edit
    · exact h
  unfold State.takePair
  dsimp only
  split
  · exact hload
  · exact hload.writeProfiles.rest

theorem sampleBurst {b : FrameNo} {m : Response} (h : PowerLaw s) : PowerLaw (s.sampleBurst t b m).st := by
  have hfade : ∀ n, n ≤ 240 → PowerLaw ((s.complete t).setTerm t { (s.complete t).term t with fade := n }) :=
    fun n hn => h.complete.edit fun ht => ht.faded hn
  unfold State.sampleBurst
  dsimp only
  split
  · exact (hfade _ (smooth_le _ _ _)).lose
  · exact (hfade _ (smooth_le _ _ _)).takePair.trackPower

theorem trackReport {b : FrameNo} {o : Option Response} (h : PowerLaw s) : PowerLaw (s.trackReport t b o).st := by
  have hmisses : ∀ n, PowerLaw (s.setTerm t { s.term t with missCount := n }) := fun _ => h.edit
  have hmissed : PowerLaw (s.missedTraffic t).st := by
    unfold State.missedTraffic
    dsimp only
    split
    · exact (hmisses _).lose
    · exact hmisses _
  unfold State.trackReport
  split
  · split
    · unfold State.acceptedBurst
      dsimp only
      split
      · exact hmisses _
      · exact (hmisses _).sampleBurst
    · exact hmissed
  · exact hmissed

theorem takeReport {terminal : Byte} {b : FrameNo} {o : Option Response} (h : PowerLaw s) :
    PowerLaw (s.takeReport terminal b o) := by
  have hroute : ∀ t, PowerLaw (s.routeReport t b o).st := fun t => by
    unfold State.routeReport
    split
    · exact h.trackReport
    · split
      · exact h
      · split
        · exact h
        · split
          · exact h.settleReport
          · exact h.verifyReport
          · exact h
    · exact h
  unfold State.takeReport
  split
  · exact h
  · split
    · exact h
    · exact (hroute _).close

/-! ### Polls -/

theorem hear (h : PowerLaw s) : PowerLaw (s.hear t).st := by
  unfold State.hear
  split
  · split
    · exact h
    · exact rest (h.edit (t := t) (r := { s.term t with heard := true }))
  · exact h.transition.edit.join
  · exact h.transition.edit.join
  · exact h

theorem takeOutcome {k : PollTag} {o : Option Response} (h : PowerLaw s) : PowerLaw (s.takeOutcome k o).st := by
  have hfree : PowerLaw (s.setPoll k none) := h.rest
  unfold State.takeOutcome State.matchOutcome
  split
  · exact h
  · split
    · unfold State.engineOutcome
      split
      · exact hfree
      · split
        · exact hfree
        · split
          · exact hfree.handOutcome
          · exact hfree
    · unfold State.sweepOutcome
      split
      · exact hfree
      · split
        · exact hfree
        · split
          · exact hfree
          · unfold Work.andThen State.endOutage
            dsimp only
            split
            · exact hfree.hear.setMode
            · exact hfree.hear

theorem takePollResult {tag outcome errors : Byte} {level : BitVec 16} (h : PowerLaw s) :
    PowerLaw (s.takePollResult tag outcome level errors) := by
  unfold State.takePollResult
  split
  · split
    · exact h
    · exact h.takeOutcome.close
  · exact h

/-! ### A mark -/

theorem countMark {slip : Bool} {n : FrameNo} (h : PowerLaw s) : PowerLaw (s.countMark slip n) := fun u => by
  have hu : (s.term u).Powered := h u
  rw [State.countMark_term]
  exact hu.powerMark slip

theorem expireBackoff (h : PowerLaw s) : PowerLaw (s.expireBackoff t).st := by
  unfold State.expireBackoff
  split
  · exact h.transition.edit.join
  · exact h

theorem timeoutIfDue {k : PollTag} (h : PowerLaw s) : PowerLaw (s.timeoutIfDue k).st := by
  unfold State.timeoutIfDue
  split
  · exact h.takeOutcome
  · exact h

/-- Work repeated over a list. -/
theorem foldl {α : Type} {f : State → α → State} (hf : ∀ {y a}, PowerLaw y → PowerLaw (f y a)) (l : List α)
    (h : PowerLaw s) : PowerLaw (l.foldl f s) :=
  List.foldlRecOn l _ h fun _ hs _ _ => hf hs

theorem freeSendOrder {n m : Nat} (h : PowerLaw s) : PowerLaw (s.freeSendOrder n m) := h.rest

theorem markEnds (h : PowerLaw s) : PowerLaw s.markEnds.st := by
  have hexpired : PowerLaw s.expireAll.st := fun u => by
    rcases (State.Expires.expireAll s).records u with hsame | ⟨-, hback, -, -⟩
    · rw [hsame]
      exact h u
    · rw [hback]
      exact h u
  have hticked : PowerLaw s.tickAll.st := by
    rw [State.tickAll_st]
    exact foldl (fun hy => hy.tickIfDue) allEngines hexpired
  have htimed : PowerLaw s.timeAll.st := by
    unfold State.timeAll
    exact List.foldlRecOn (motive := fun w : Work => PowerLaw w.st) allTags _ hticked fun _ hw _ _ => hw.timeoutIfDue
  rw [State.markEnds_st]
  exact htimed.freeSendOrder

theorem frameMark {n : FrameNo} {slots : Nat} (h : PowerLaw s) : PowerLaw (s.frameMark n slots) := fun u => by
  have haccept : PowerLaw (s.acceptMark n) := h.rest
  rw [(s.frameMark_fields n slots).1]
  exact haccept.countMark.markEnds.close u

/-! ### The modem link -/

theorem takeModemFrame {f : WireFrame} (h : PowerLaw s) : PowerLaw (s.takeModemFrame f) := by
  have hhunt : PowerLaw s.mlHunt := h.rest
  unfold State.takeModemFrame
  split
  · exact hhunt
  · unfold State.takeModemCommand
    split
    · exact hhunt.frameMark
    · exact hhunt.takeReport
    · exact hhunt.takeReport
    · exact hhunt.takePollResult
    · exact hhunt

theorem takeModemByte {b : Byte} (h : PowerLaw s) : PowerLaw (s.takeModemByte b) := by
  unfold State.takeModemByte
  split
  · exact h.rest
  · split
    · exact h.takeModemFrame
    · exact h.rest

/-! ### The requests -/

/-- AMEND: where the new Pmax is below Pc a command to it is issued in the same event (R13, R15, R60). -/
theorem amended {p : Provisioned} (h : PowerLaw s) : PowerLaw (s.amended t p).st := fun u => by
  obtain ⟨hpc, -, hfade⟩ : (s.term t).Powered := h t
  have hothers : u ≠ t → ((s.stored t p).term u).Powered := fun hu => by
    rw [State.stored_term, if_neg hu]
    exact h u
  have hstored : (s.stored t p).term t = (s.term t).withValues p := (s.stored_term t t p).trans (if_pos rfl)
  rw [State.amended_eq]
  dsimp only
  split
  · obtain ⟨hterm, hclamp, -⟩ := (s.stored t p).clampPower_spec t
    by_cases hu : u = t
    · rw [hu, hterm, hstored, TermRec.withValues_completed, TermRec.completed_eq]
      exact TermRec.Powered.superseded hfade
    · rw [hclamp u hu]
      exact hothers hu
  · next hle =>
    by_cases hu : u = t
    · rw [hu, hstored]
      exact ⟨hpc, Nat.not_lt.mp hle, hfade⟩
    · exact hothers hu

/-- A terminal taken out of every collection, with the record RETIRE or BAR leaves (R16, R17). -/
theorem takenOut {due left : Bool} (h : PowerLaw s) (hr : r.Powered) :
    PowerLaw ((⟨((s.takeOut t).st.setTerm t r).mark t, due⟩ : Work).checkClearIf left).close := by
  have hout : PowerLaw (s.takeOut t).st := h.places fun u => by rw [State.takeOut_term]
  exact (checkClearIf (w := ⟨_, _⟩) (rest (hout.setTerm hr))).close

/-- A record written, and the terminal back in the queue (R12, R19, R20). -/
theorem requeued {a : TermState} (h : PowerLaw s) (hr : r.Powered) :
    PowerLaw (Work.trigger (((s.setTerm t r).transition t a .queued).join t)).close :=
  close (w := .trigger _) (h.setTerm hr).transition.join

theorem provisionServing {body : List Byte} (h : PowerLaw s) : PowerLaw (s.provisionServing t body) := by
  have hserving : PowerLaw (s.setTerm t (servingRec body s.params.holdOffLoad)) := h.setTerm (.provisioned body)
  rw [State.provisionServing_eq]
  exact hserving.rest

theorem restoreNow (h : PowerLaw s) : PowerLaw (s.restoreNow t).st := by
  unfold State.restoreNow
  split
  · exact close (w := .trigger _) h.lose
  · exact h.requeued (h t)
  · exact h.requeued (h t)
  · exact h
  · exact h

theorem onTerminal {n : Nat} {f : TermId → Answer} (h : PowerLaw s) (hf : ∀ t, PowerLaw (f t).st) :
    PowerLaw (s.onTerminal n f).st := by
  unfold State.onTerminal
  split
  · exact h
  · split
    · exact h
    · exact hf _

theorem onProvisioned {n : Nat} {f : TermId → Answer} (h : PowerLaw s) (hf : ∀ t, PowerLaw (f t).st) :
    PowerLaw (s.onProvisioned n f).st := by
  refine h.onTerminal fun t => ?_
  split
  · exact h
  · exact hf t

theorem carry {k : ReqKind} {body : List Byte} (h : PowerLaw s) : PowerLaw (Machine.carry k body s).st := by
  cases k with
  | provision =>
    refine h.onTerminal fun t => ?_
    split
    · exact h
    · split
      · exact h.provisionServing
      · exact h.requeued (.provisioned body)
  | amend => exact h.onProvisioned fun t => h.amended.close
  | retire => exact h.onProvisioned fun t => h.takenOut .powerOn
  | bar =>
    refine h.onProvisioned fun t => ?_
    split
    · exact h
    · exact h.takenOut (h t)
  | unbar =>
    refine h.onProvisioned fun t => ?_
    split
    · exact h.requeued (h t)
    · exact h
  | restoreNow => exact h.onProvisioned fun t => h.restoreNow
  | readTerminal =>
    show PowerLaw (carryReadTerminal body s).st
    unfold carryReadTerminal
    dsimp only
    split
    · exact h
    · split
      · exact h
      · split <;> exact h
  | setLadder =>
    show PowerLaw (carrySetLadder body s).st
    unfold carrySetLadder
    dsimp only
    split <;> exact h.rest
  | release => exact close (w := .trigger _) h.rest
  | setSector | hold | readChanges => exact h.rest
  | status | readSector | readQueue | restart => exact h

/-- A frame that completes on the control port does what it does in the buffer, or nothing (R156). -/
theorem enterBuffer {q : ReqFrame} {g : State → State} (h : PowerLaw s) (hg : ∀ {y}, PowerLaw y → PowerLaw (g y)) :
    PowerLaw (s.enterBuffer q g) := by
  unfold State.enterBuffer
  dsimp only
  split
  · exact h.rest
  · exact hg h.rest

theorem takeRequest {k : ReqKind} {tag : Byte} {body : List Byte} (h : PowerLaw s) :
    PowerLaw (s.takeRequest k tag body) := by
  refine h.enterBuffer fun hy => ?_
  split
  · exact hy.rest
  · exact hy.carry.rest

theorem takeControlFrame {f : WireFrame} {good : Bool} (h : PowerLaw s) : PowerLaw (s.takeControlFrame f good) := by
  unfold State.takeControlFrame
  split
  · exact h.enterBuffer fun hy => hy.rest
  · split
    · exact h.enterBuffer fun hy => hy.rest
    · exact h.takeRequest

theorem takeControlByte {b : Byte} (h : PowerLaw s) : PowerLaw (s.takeControlByte b) := by
  unfold State.takeControlByte
  split
  · exact h.rest
  · exact h.takeControlFrame

/-! ### The step -/

theorem restarted (s : State) (c : StartCause) : PowerLaw (s.restarted c) := fun u => by
  have hterm : (s.restarted c).term u = .powerOn := State.reset_term u
  rw [hterm]
  exact TermRec.Powered.powerOn

/-- Every command keeps the law. -/
theorem exec {c : Instr} (h : PowerLaw s) (hv : Machine.exec c s = .next v) : PowerLaw v := by
  have hhunt : PowerLaw s.mlHunt := h.rest
  suffices hnext : ∀ {x : State}, PowerLaw x → Host.Outcome.next x = (Host.Outcome.next v : Result) → PowerLaw v by
    cases c with
    | powerOn => exact hnext (restarted s _) hv
    | replySent =>
      refine hnext ?_ hv
      unfold State.replyLeaves
      split
      · exact restarted s _
      · split <;> exact h.rest
    | restartReset =>
      refine hnext ?_ hv
      split
      · exact restarted s _
      · exact h
    | cpLengthDiscard => exact hnext h.takeControlByte hv
    | cpSyncFound bytes => exact hnext (foldl (fun hy => hy.takeControlByte) bytes h) hv
    | frameDiscardedBufferOccupied | badFrame | badKind => exact hnext h.takeControlFrame hv
    | status | setSector | readSector | setLadder | provision | amend | retire | bar | unbar | restoreNow | readTerminal
    | hold | release | readChanges | readQueue | restart => exact hnext h.takeRequest hv
    | mlLengthDiscard => exact hnext h.takeModemByte hv
    | mlSyncFound bytes => exact hnext (foldl (fun hy => hy.takeModemByte) bytes h) hv
    | mlFrameDropped => exact hnext h.takeModemFrame hv
    | frame => exact hnext hhunt.frameMark hv
    | burst | miss => exact hnext hhunt.takeReport hv
    | pollResult => exact hnext hhunt.takePollResult hv
    | cpGapDiscard | mlGapDiscard | mlCrcDiscard | modemSilent | lossWindowExpiry | outboundMessageSent =>
      exact hnext h.rest hv
    | commandEffective => exact hnext h.complete hv
    | ambiguityWindowClose => exact hnext (h.edit fun ht => ht.windowClosed) hv
    | backoffExpiry =>
      refine hnext ?_ hv
      split
      · exact h.expireBackoff.close
      · exact h
    | rampTick => exact hnext h.tickIfDue hv
    | pollTimeout =>
      refine hnext ?_ hv
      split
      · exact h.timeoutIfDue.close
      · exact h
  rintro x hx ⟨⟩
  exact hx

theorem step (h : PowerLaw s) (hv : Machine.step s = .next v) : PowerLaw v := by
  unfold Machine.step at hv
  split at hv
  · cases hv
    exact h.rest
  · exact exec (rest h) hv

end PowerLaw

/-- Settles O56: every operation keeps the law, AMEND by the clamp of R15 in its own event. -/
theorem stepKeepsPowerLaw : Obligations.StepKeepsPowerLaw := fun _ _ h hv => h.step hv

end Sys2Proof.Machine
end

section
/-! The ends of operations as commands: each acts where its condition stands, and elsewhere changes nothing (R57, R106,
R118). -/

namespace Sys2Proof.Machine

/-! ### The commands of a record -/

/-- A command due at the frame comes into force (R57). -/
theorem TermRec.completed_due {r : TermRec} {c : PowerCmd} {n : FrameNo} (hc : r.pendingCmd = some c) (hn : c.effect = n) :
    r.completed n = { r with pe := c.value, pendingCmd := none } := by
  have hdue : r.atEffect n = true := by simp [TermRec.atEffect, hc, hn]
  unfold TermRec.completed TermRec.effective
  rw [if_pos hdue, hc]

theorem TermRec.completed_undue {r : TermRec} {n : FrameNo} (h : ∀ c, r.pendingCmd = some c → c.effect ≠ n) :
    r.completed n = r := by
  refine if_neg ?_
  unfold TermRec.atEffect
  cases hc : r.pendingCmd with
  | none => simp
  | some c => simpa using h c hc

/-! ### The poll table under an outcome -/

theorem State.exhaust_polls (s : State) (e : EngineId) (j : Job) : (s.exhaust e j).polls = s.polls := by
  have htransition : ∀ (x : State) a b, (x.transition j.term a b).polls = x.polls := fun x a b =>
    arbKept_polls (x.transition_arbKept j.term a b)
  unfold State.exhaust
  dsimp only
  rw [State.setJob_polls]
  split <;> split <;> simp only [State.setTerm_polls, State.send_polls, htransition]

theorem State.admitTerm_polls (s : State) (t : TermId) (p : Nat) : (s.admitTerm t p).polls = s.polls := by
  unfold State.admitTerm
  dsimp only
  rw [State.send_polls, arbKept_polls (State.writeProfiles_arbKept ..)]
  rfl

theorem State.endConfirm_polls (s : State) (e : EngineId) (j : Job) (p fu : Nat) :
    (s.endConfirm e j p fu).polls = s.polls := by
  obtain ⟨r, v, j', hend⟩ := s.endConfirm_cases e j p fu
  rw [hend, State.setJob_polls, State.admitTerm_polls, State.setTerm_polls]

/-- A search gate judged sends no poll and frees none (R97 to R101). -/
theorem State.judgeSearch_polls (s : State) (e : EngineId) (j : Job) (g : Gate) : (s.judgeSearch e j g).st.polls = s.polls := by
  unfold State.judgeSearch
  split
  · rcases Nat.eq_zero_or_pos (if j.phase = .confirm then j.confirmLeft - 1 else s.params.confirmCount - 1) with h | h
    · rw [State.searchAccepted_ends h]
      exact State.endConfirm_polls ..
    · rw [State.searchAccepted_goes rfl h]
      rfl
  · unfold State.searchMissed
    dsimp only
    split
    · exact State.exhaust_polls ..
    · rfl

theorem State.handOutcome_polls (s : State) (e : EngineId) (j : Job) (o : Option Response) :
    (s.handOutcome e j o).st.polls = s.polls := by
  unfold State.handOutcome
  dsimp only
  split
  · rfl
  · split
    · split
      · exact State.judgeSearch_polls ..
      · rfl
    · rfl

/-- The outcome SILENT frees the place of its tag (R118, R122). -/
theorem State.takeOutcome_silent_poll (s : State) (k : PollTag) : (s.takeOutcome k none).st.poll k = none := by
  have hfree : (s.setPoll k none).poll k = none := State.setPoll_poll_self ..
  unfold State.takeOutcome State.matchOutcome
  split
  · next hp => exact hp
  · split
    · unfold State.engineOutcome
      split
      · exact hfree
      · split
        · exact hfree
        · split
          · exact (State.poll_congr (State.handOutcome_polls ..) k).trans hfree
          · exact hfree
    · unfold State.sweepOutcome
      split
      · exact hfree
      · split <;> exact hfree

/-! ### A poll timed out -/

theorem State.timedOut_iff (s : State) (k : PollTag) :
    (s.poll k).any (fun p => p.countdown = 0) = true ↔ ∃ p, s.poll k = some p ∧ p.countdown = 0 := by
  simp [Option.any_eq_true]

/-- A timeout of a spent countdown is the outcome SILENT of its tag (R118). -/
theorem exec_pollTimeout_spent {s : State} {k : PollTag} {p : PollEntry} (hp : s.poll k = some p) (h : p.countdown = 0) :
    exec (.pollTimeout k) s = .next (s.takeOutcome k none).close := by
  have hdue := (s.timedOut_iff k).mpr ⟨p, hp, h⟩
  refine congrArg Host.Outcome.next ((if_pos hdue).trans ?_)
  unfold State.timeoutIfDue
  rw [if_pos hdue]

theorem State.mlHunt_of_hunting {s : State} (h : s.mlRx = .hunting) : s.mlHunt = s := by
  unfold State.mlHunt
  rw [← h]

/-- Settles O48: the completion, the closing of a window, a tick and a timeout, each with its condition and without. -/
theorem endsOfOperations : Obligations.EndsOfOperations := by
  refine ⟨fun s t => ⟨fun c hc hn => ?_, fun h => ?_, fun h => ?_, fun h => ?_, fun e h => ?_, rfl, rfl,
    fun m rest h => ?_⟩, fun s k errors level hrx => ⟨fun p hp hspent => ?_, fun h => ?_⟩⟩
  · rw [← TermRec.completed_due hc hn]
    rfl
  · have hcomplete : s.complete t = s := by
      unfold State.complete
      rw [TermRec.completed_undue h, State.setTerm_self]
    exact congrArg Host.Outcome.next hcomplete
  · have hclosed : (s.term t).windowClosed s.lastFrame = { s.term t with ambigUntil := none } := if_pos h
    rw [← hclosed]
    rfl
  · have hopen : s.closeWindow t = s := by
      have hrec : (s.term t).windowClosed s.lastFrame = s.term t := if_neg h
      unfold State.closeWindow
      rw [hrec, State.setTerm_self]
    exact congrArg Host.Outcome.next hopen
  · rcases s.tickIfDue_cases e with hrest | ⟨j, rp, hj, hp, hr, htick, -⟩
    · exact congrArg Host.Outcome.next hrest
    · exact absurd htick (h j rp hj hp hr)
  · exact congrArg (fun l => Host.Outcome.next { s with outbox := l }) (congrArg List.tail h)
  · refine ⟨(s.takeOutcome k none).close, exec_pollTimeout_spent hp hspent, ?_, ?_⟩
    · obtain ⟨-, -, hpolls, -, -⟩ := (s.takeOutcome k none).close_fields
      exact (State.poll_congr hpolls k).trans (s.takeOutcome_silent_poll k)
    · have htag : (byteOf k.val).toNat = k.val := by
        unfold byteOf
        rw [BitVec.toNat_ofNat]
        exact Nat.mod_eq_of_lt (by omega)
      rw [exec_pollResult, State.mlHunt_of_hunting hrx, State.takePollResult_named htag rfl]
  · refine congrArg Host.Outcome.next (if_neg fun hdue => ?_)
    obtain ⟨p, hp, hspent⟩ := (s.timedOut_iff k).mp hdue
    exact h p hp hspent

end Sys2Proof.Machine
end

section
/-! The queue stands in the order of its groups (R73, R74): every act and every mark's counts keep it. -/

namespace Sys2Proof.Machine

/-! ### What keeps the order -/

/-- A queue of terminals that stood in order before, with their groups as before, stands in order. -/
theorem QueueOrdered.sublist {s v : State} (h : QueueOrdered s) (hq : v.queue.Sublist s.queue)
    (hg : ∀ u ∈ v.queue, (v.term u).group = (s.term u).group) : QueueOrdered v :=
  (List.Pairwise.sublist hq h).imp_of_mem fun ht hu hle => by rw [hg _ ht, hg _ hu]; exact hle

/-- The same queue, with the groups of its terminals as before, stands in order. -/
theorem QueueOrdered.congr {s v : State} (h : QueueOrdered s) (hq : v.queue = s.queue)
    (hg : ∀ u ∈ s.queue, (v.term u).group = (s.term u).group) : QueueOrdered v :=
  h.sublist (hq ▸ List.Sublist.refl _) (hq ▸ hg)

/-- A value put into a list in the order of `f`, after every value not above it, leaves the list in that order. -/
theorem pairwise_takeWhile_cons_dropWhile {α : Type} (f : α → Nat) (x : α) {l : List α}
    (h : l.Pairwise (fun a b => f a ≤ f b)) :
    (l.takeWhile (fun a => f a ≤ f x) ++ x :: l.dropWhile (fun a => f a ≤ f x)).Pairwise (fun a b => f a ≤ f b) := by
  induction l with
  | nil => simp
  | cons y l ih =>
    obtain ⟨hy, hl⟩ := List.pairwise_cons.mp h
    by_cases hyx : f y ≤ f x
    · rw [List.takeWhile_cons_of_pos (by simpa using hyx), List.dropWhile_cons_of_pos (by simpa using hyx), List.cons_append,
        List.pairwise_cons]
      refine ⟨fun b hb => ?_, ih hl⟩
      rw [List.perm_middle.mem_iff, List.takeWhile_append_dropWhile] at hb
      rcases List.mem_cons.mp hb with rfl | hb
      · exact hyx
      · exact hy b hb
    · rw [List.takeWhile_cons_of_neg (by simpa using hyx), List.dropWhile_cons_of_neg (by simpa using hyx), List.nil_append,
        List.pairwise_cons]
      refine ⟨fun b hb => ?_, h⟩
      rcases List.mem_cons.mp hb with rfl | hb
      · omega
      · have := hy b hb
        omega

/-- A terminal put at the end of its group leaves the queue in order (R74). -/
theorem QueueOrdered.joinEnd {s : State} (h : QueueOrdered s) (t : TermId) : QueueOrdered (s.joinEnd t) :=
  pairwise_takeWhile_cons_dropWhile (fun u => (s.term u).group) t h

/-- A terminal that stands in the queue no more gets a new record and is put at the end of its group (R14, R74, R76). -/
theorem QueueOrdered.insert {s : State} {t : TermId} {r : TermRec} (h : QueueOrdered s) (ht : t ∉ s.queue) :
    QueueOrdered ((s.setTerm t r).joinEnd t) := by
  refine QueueOrdered.joinEnd (h.congr (v := s.setTerm t r) rfl fun u hu => ?_) t
  rw [State.setTerm_term_ne _ _ (ne_of_mem_of_not_mem hu ht)]

/-! ### The acts -/

theorem TermRec.transit_group (r : TermRec) (a b : TermState) : (r.transit a b).group = r.group := by
  unfold TermRec.transit
  split <;> rfl

theorem TermRec.Rewrites.group {p : SectorParams} {r r' : TermRec} (h : TermRec.Rewrites p r r') : r'.group = r.group := by
  obtain ⟨-, hcls, hheard, -⟩ := h.place
  unfold TermRec.group
  rw [hcls, hheard]

theorem TermRec.spent_group (r : TermRec) (p : SectorParams) : (r.spent p).group = r.group := by
  unfold TermRec.spent
  dsimp only
  split
  · exact TermRec.transit_group ..
  · exact TermRec.transit_group ..

/-- A grant takes its terminal out of the queue and leaves the records of the others (R82). -/
theorem QueueOrdered.grant {s : State} (h : QueueOrdered s) (e : EngineId) (t : TermId) : QueueOrdered (s.grant e t) := by
  have hqueue := (s.grant_fields e t).1
  refine h.sublist (hqueue ▸ List.filter_sublist) fun u hu => ?_
  rw [hqueue] at hu
  rw [State.grant_term, if_neg (by simpa using (List.mem_filter.mp hu).2)]

theorem QueueOrdered.setAside {s : State} (h : QueueOrdered s) (e : EngineId) (j : Job) : QueueOrdered (s.setAside e j) := by
  refine h.congr (by simp [State.setAside]) fun u _ => ?_
  unfold State.setAside
  rw [State.setJob_term, State.transition_term_eq]
  split
  · exact TermRec.transit_group ..
  · rfl

/-- The queue made at outage entry stands by class, and every terminal of it is unheard (R75, R140). -/
theorem State.enterOutage_ordered {s : State} (hplaced : s.Placed False) : QueueOrdered s.enterOutage := by
  have hmem := (State.enterOutage_placed (full := False) nofun hplaced).queue.2.1
  have hgroup : ∀ u ∈ s.enterOutage.queue, (s.enterOutage.term u).group = 2 * (s.abandonAll.term u).cls + 1 := fun u hu => by
    have hst := hmem u hu
    rw [State.enterOutage_term] at hst ⊢
    split at hst
    · next hqueued => rw [if_pos hqueued]; rfl
    · next hqueued => exact absurd hst hqueued
  have hcls : s.enterOutage.queue.Pairwise fun t u => (s.abandonAll.term t).cls ≤ (s.abandonAll.term u).cls := by
    have hqueue : s.enterOutage.queue = s.abandonAll.requeued s.abandonList := by rw [State.enterOutage_eq]; rfl
    have hof : ∀ c u, u ∈ s.abandonList.filter (fun t => decide ((s.abandonAll.term t).cls = c)) ++
        s.abandonAll.queue.filter (fun t => decide ((s.abandonAll.term t).cls = c ∧ (s.abandonAll.term t).heard = true)) ++
        s.abandonAll.queue.filter (fun t => decide ((s.abandonAll.term t).cls = c ∧ (!(s.abandonAll.term t).heard) = true)) →
        (s.abandonAll.term u).cls = c := fun c u hu => by
      simp only [List.mem_append, List.mem_filter, decide_eq_true_eq] at hu
      rcases hu with (⟨-, h⟩ | ⟨-, h, -⟩) | ⟨-, h, -⟩ <;> exact h
    rw [hqueue, State.requeued, List.pairwise_flatMap]
    refine ⟨fun c _ => List.pairwise_of_forall_mem_list fun t ht u hu => (hof c t ht).trans_le (hof c u hu).ge, ?_⟩
    refine List.Pairwise.imp (fun {c d} hcd t ht u hu => ?_) (show [0, 1, 2, 3].Pairwise (· ≤ ·) by decide)
    rw [hof c t ht, hof d u hu]
    exact hcd
  refine hcls.imp_of_mem fun ht hu hle => ?_
  rw [hgroup _ ht, hgroup _ hu]
  omega

/-- Every act keeps the order of the queue, where the collections are told apart by the states. -/
theorem State.Act.ordered {s v : State} (h : s.Act v) (hplaced : s.Placed False) (ho : QueueOrdered s) : QueueOrdered v := by
  have hout : ∀ {t}, (s.term t).state ≠ .queued → t ∉ s.queue := fun hst hmem => hst (hplaced.queued hmem)
  have hwrite : ∀ {t} {r : TermRec}, t ∉ s.queue → ∀ u ∈ s.queue, ((s.setTerm t r).term u).group = (s.term u).group :=
    fun ht u hu => by rw [State.setTerm_term_ne _ _ (ne_of_mem_of_not_mem hu ht)]
  cases h with
  | quiet h => exact ho.congr h.queue fun u _ => (h.records u).group
  | reset _ hq => rw [QueueOrdered, hq]; exact .nil
  | sector | ladder => exact ho
  | grant e t => exact ho.grant e t
  | resume e c below =>
    refine ho.congr (s.resume_fields e c below).1 fun u _ => ?_
    rw [State.resume_term]
    split
    · exact TermRec.transit_group ..
    · rfl
  | preempt e j t => rw [State.preempt_eq]; exact (ho.setAside e j).grant e t
  | outage => exact State.enterOutage_ordered hplaced
  | joins t r h =>
    have hins := ho.insert (r := r) (hout h.state.2.1)
    refine hins.congr (s.rejoin_queue t r) fun u _ => ?_
    rw [State.rejoin_term, ← State.setTerm_term]
    rfl
  | regroup t cls heard =>
    refine QueueOrdered.insert (s := s.leaveQueue t) (ho.sublist List.filter_sublist fun _ _ => rfl) ?_
    simp
  | reclass t cls hst _ ht hq =>
    exact ho.congr hq fun u hu => by rw [State.term_congr ht, hwrite (hout hst) u hu]
  | exhaust e j he =>
    refine ho.congr ?_ fun u _ => ?_
    · exact (s.exhaust_spec e j (hplaced.active he)).2.2.2.2.2.1
    · rw [State.exhaust_term]
      split
      · next hu => rw [hu]; exact TermRec.spent_group ..
      · rfl
  | handOver e t =>
    refine ho.congr (by simp [State.handOver]) fun u _ => ?_
    rw [State.handOver_term]
    split
    · next hu => rw [hu]; exact TermRec.transit_group ..
    · rfl
  | serves t body hst => exact ho.congr rfl (hwrite (hout (by simp [hst])))
  | takesOut t r =>
    have hqueue := (s.takeOut_fields t).1
    refine ho.sublist (hqueue ▸ List.filter_sublist) fun u hu => ?_
    rw [State.setTerm_queue, hqueue] at hu
    rw [State.setTerm_term_ne _ _ (by simpa using (List.mem_filter.mp hu).2), State.takeOut_term]

/-- The counts of a mark move no terminal from its group. -/
theorem State.countMark_ordered {s : State} (slip : Bool) (n : FrameNo) (h : QueueOrdered s) :
    QueueOrdered (s.countMark slip n) :=
  h.congr rfl fun u _ => by
    rw [State.countMark_term]
    exact (TermRec.Rewrites.powerMark (p := s.params) slip n).group

/-- Settles O54: the acts and the counts of a mark keep the order and the rosters the order rests on. -/
theorem stepKeepsQueueOrder : Obligations.StepKeepsQueueOrder := fun _ _ hc _ ho hstep =>
  ((step_events hstep).keeps_of_count (P := fun x => x.Placed False ∧ QueueOrdered x)
    (fun _ _ hact hs => ⟨hact.placed nofun hs.1, hact.ordered hs.1 hs.2⟩)
    (fun _ slip n hs => ⟨State.countMark_placed slip n hs.1, State.countMark_ordered slip n hs.2⟩)
    ⟨((collectionsLaw_iff _).mp hc).weaken, ho⟩).2

end Sys2Proof.Machine
end

section
/-! The evaluation: the victim of a preemption (R85), what the fill step and the preemption step take and leave (R80 to R86),
and the requests that set and clear HOLD (R90, R91). -/

namespace Sys2Proof.Machine

/-! ### The victim -/

section Victim

variable {s : State}

/-- Of two jobs on two engines the first is the victim: a larger class, then a later serial, then a lower engine (R85). -/
def State.Outranks (s : State) (e : EngineId) (j : Job) (e' : EngineId) (j' : Job) : Prop :=
  j'.cls < j.cls ∨ (j'.cls = j.cls ∧ s.serialAge j < s.serialAge j') ∨
    (j'.cls = j.cls ∧ s.serialAge j = s.serialAge j' ∧ e < e')

theorem State.victimBefore_iff (a b : Job) :
    s.victimBefore a b = true ↔ b.cls < a.cls ∨ (a.cls = b.cls ∧ s.serialAge a < s.serialAge b) := by
  simp [State.victimBefore]

/-- The victim among the engines of `l`: none where no job of them searches, else one that outranks the others. -/
def State.VictimOf (s : State) (l : List EngineId) : Option (EngineId × Job) → Prop
  | none => ∀ e ∈ l, ∀ j, s.job e = some j → j.phase.searching = false
  | some (e, j) => s.job e = some j ∧ j.phase.searching = true ∧
      ∀ e' ∈ l, ∀ j', s.job e' = some j' → j'.phase.searching = true → e' ≠ e → s.Outranks e j e' j'

/-- The victim so far and the next engine. -/
theorem State.VictimOf.step {l : List EngineId} {best : Option (EngineId × Job)} {e : EngineId} (h : s.VictimOf l best)
    (hbest : ∀ b ∈ best, b.1 < e) : s.VictimOf (e :: l) (s.victimStep best e) := by
  have hskip : (∀ j, s.job e = some j → j.phase.searching = false) → s.VictimOf (e :: l) best := fun hnot => by
    cases best with
    | none => exact List.forall_mem_cons.mpr ⟨hnot, h⟩
    | some b =>
      obtain ⟨hjob, hsearch, hrest⟩ := h
      refine ⟨hjob, hsearch, List.forall_mem_cons.mpr ⟨fun j hj hs => ?_, hrest⟩⟩
      rw [hnot j hj] at hs
      cases hs
  have hself : ∀ {j : Job}, s.job e = some j → ∀ j', s.job e = some j' → e ≠ e → s.Outranks e j e j' :=
    fun _ _ _ hne => absurd rfl hne
  unfold State.victimStep
  split
  · next hidle => exact hskip fun j hj => by rw [hidle] at hj; cases hj
  · next j hj =>
    split
    · next hs =>
      cases best with
      | none =>
        refine ⟨hj, hs, List.forall_mem_cons.mpr ⟨fun j' hj' _ => hself hj j' hj', fun e' he' j' hj' hs' => ?_⟩⟩
        rw [h e' he' j' hj'] at hs'
        cases hs'
      | some b =>
        obtain ⟨f, i⟩ := b
        obtain ⟨hjob, hsearch, hrest⟩ := h
        have hlt : f < e := hbest (f, i) rfl
        dsimp only
        split
        · next hbefore =>
          rw [State.victimBefore_iff] at hbefore
          refine ⟨hj, hs, List.forall_mem_cons.mpr ⟨fun j' hj' _ => hself hj j' hj', fun e' he' j' hj' hs' _ => ?_⟩⟩
          unfold State.Outranks
          by_cases heq : e' = f
          · obtain rfl : j' = i := by rw [heq, hjob] at hj'; exact (Option.some.inj hj').symm
            omega
          · have hout := hrest e' he' j' hj' hs' heq
            unfold State.Outranks at hout
            omega
        · next hbefore =>
          rw [State.victimBefore_iff] at hbefore
          refine ⟨hjob, hsearch, List.forall_mem_cons.mpr ⟨fun j' hj' _ _ => ?_, hrest⟩⟩
          obtain rfl := Option.some.inj (hj.symm.trans hj')
          unfold State.Outranks
          simp only [hlt, and_true]
          omega
    · next hs => exact hskip fun j' hj' => by rw [← Option.some.inj (hj.symm.trans hj')]; simpa using hs

/-- The victim so far stands on an engine met so far. -/
theorem State.victimStep_engine {best : Option (EngineId × Job)} {e f : EngineId} (hef : e < f) (h : ∀ b ∈ best, b.1 < e) :
    ∀ b ∈ s.victimStep best e, b.1 < f := by
  have hbest : ∀ b ∈ best, b.1 < f := fun b hb => (h b hb).trans hef
  unfold State.victimStep
  split
  · exact hbest
  · split
    · split
      · rintro _ ⟨⟩; exact hef
      · split
        · rintro _ ⟨⟩; exact hef
        · exact hbest
    · exact hbest

/-- The victim of the whole part is that of the four engines (R85). -/
theorem State.victim_victimOf (s : State) : s.VictimOf [3, 2, 1, 0] s.victim := by
  have h0 : ∀ b ∈ (none : Option (EngineId × Job)), b.1 < 0 := nofun
  have h1 := State.victimStep_engine (s := s) (show (0 : EngineId) < 1 by decide) h0
  have h2 := State.victimStep_engine (s := s) (show (1 : EngineId) < 2 by decide) h1
  have h3 := State.victimStep_engine (s := s) (show (2 : EngineId) < 3 by decide) h2
  have hnone : s.VictimOf [] none := nofun
  exact (((hnone.step h0).step h1).step h2).step h3

end Victim

/-- Settles O30: the victim among the engines met so far, engine after engine. -/
theorem victimIsLatestOfLargestClass : Obligations.VictimIsLatestOfLargestClass := by
  intro s
  have hmem : ∀ e : EngineId, e ∈ [(3 : EngineId), 2, 1, 0] := by decide
  have hvictim := s.victim_victimOf
  refine ⟨⟨fun hnone e j hj => ?_, fun hnot => ?_⟩, fun e j hsome => ?_⟩
  · rw [hnone] at hvictim
    exact hvictim e (hmem e) j hj
  · cases h : s.victim with
    | none => rfl
    | some b =>
      obtain ⟨hjob, hsearch⟩ := State.victim_some h
      rw [hnot _ _ hjob] at hsearch
      cases hsearch
  · rw [hsome] at hvictim
    obtain ⟨hjob, hsearch, hrest⟩ := hvictim
    exact ⟨hjob, hsearch, fun e' j' => hrest e' (hmem e') j'⟩

/-! ### What the evaluation leaves -/

/-- Every engine is busy or nothing waits for one (R80). -/
def State.Filled (s : State) : Prop := (∀ e, (s.job e).isSome = true) ∨ (s.queue = [] ∧ s.stack = [])

/-- The engines of `l` are busy, or nothing waits. -/
def State.FilledFor (s : State) (l : List EngineId) : Prop :=
  (∀ e ∈ l, (s.job e).isSome = true) ∨ (s.queue = [] ∧ s.stack = [])

/-- A grant and a resume leave their engine busy and every busy engine busy. -/
theorem State.isSome_of_taken {s v : State} {e : EngineId} (hself : (v.job e).isSome = true)
    (hothers : ∀ f, f ≠ e → v.job f = s.job f) (f : EngineId) (hf : f = e ∨ (s.job f).isSome = true) :
    (v.job f).isSome = true := by
  by_cases hfe : f = e
  · rw [hfe]
    exact hself
  · rw [hothers f hfe]
    exact hf.resolve_left hfe

theorem State.grant_isSome (s : State) (e : EngineId) (t : TermId) (f : EngineId) (hf : f = e ∨ (s.job f).isSome = true) :
    ((s.grant e t).job f).isSome = true := by
  obtain ⟨-, -, -, hself, hothers, -⟩ := s.grant_fields e t
  exact State.isSome_of_taken hself hothers f hf

theorem State.resume_isSome (s : State) (e : EngineId) (c : Context) (below : List Context) (f : EngineId)
    (hf : f = e ∨ (s.job f).isSome = true) : ((s.resume e c below).job f).isSome = true := by
  obtain ⟨-, -, -, hself, hothers, -⟩ := s.resume_fields e c below
  exact State.isSome_of_taken hself hothers f hf

/-- The fill step at one engine adds it to the busy ones (R81). -/
theorem State.FilledFor.fillEngine {s : State} {l : List EngineId} (h : s.FilledFor l) (e : EngineId) :
    (s.fillEngine e).FilledFor (e :: l) := by
  unfold State.fillEngine
  split
  · next hbusy => exact h.imp_left fun hl => List.forall_mem_cons.mpr ⟨hbusy, hl⟩
  · split
    · next hk hq => exact .inr ⟨hq, hk⟩
    · next hk hq =>
      have hl := h.resolve_right (by simp [hq])
      exact .inl fun f hf => s.grant_isSome e _ f ((List.mem_cons.mp hf).imp_right (hl f))
    · next hk hq =>
      have hl := h.resolve_right (by simp [hk])
      exact .inl fun f hf => s.resume_isSome e _ _ f ((List.mem_cons.mp hf).imp_right (hl f))
    · next hk hq =>
      have hl := h.resolve_right (by simp [hq])
      split
      · exact .inl fun f hf => s.grant_isSome e _ f ((List.mem_cons.mp hf).imp_right (hl f))
      · exact .inl fun f hf => s.resume_isSome e _ _ f ((List.mem_cons.mp hf).imp_right (hl f))

/-- After the fill step every engine is busy or nothing waits (R81). -/
theorem State.fill_filled (s : State) : s.fill.Filled := by
  have hnone : s.FilledFor [] := .inl nofun
  have hall := (((hnone.fillEngine 0).fillEngine 1).fillEngine 2).fillEngine 3
  exact hall.imp_left fun h e => h e (by revert e; decide)

/-- A preemption pushes the victim's context and leaves every engine busy (R86). -/
theorem State.preempt_fields (s : State) (e : EngineId) (j : Job) (t : TermId) :
    (s.preempt e j t).stack = j.context :: s.stack ∧
    ∀ f, (s.job f).isSome = true → ((s.preempt e j t).job f).isSome = true := by
  unfold State.preempt
  refine ⟨?_, fun f hf => State.grant_isSome _ e t f (.inr ?_)⟩
  · rw [(State.grant_fields _ e t).2.1]
    simp
  · simpa using hf

/-- The preemption step leaves every engine busy or nothing waiting: it preempts only where every engine is busy (R84). -/
theorem preemptLoop_filled (n : Nat) (s : State) (h : s.Filled) : (preemptLoop n s).Filled := by
  induction n generalizing s with
  | zero => exact h
  | succ n ih =>
    unfold preemptLoop
    split
    · exact h
    · next hw =>
      split
      · exact ih _ (.inl fun f => (s.preempt_fields ..).2 f ((State.preemptWanted_some hw).1 f))
      · exact h

/-- The stack never holds more than 8 contexts after the preemption step (R84, R87). -/
theorem preemptLoop_stack_le (n : Nat) (s : State) (h : s.stack.length ≤ 8) : (preemptLoop n s).stack.length ≤ 8 := by
  induction n generalizing s with
  | zero => exact h
  | succ n ih =>
    unfold preemptLoop
    split
    · exact h
    · split
      · next hroom =>
        refine ih _ ?_
        rw [(s.preempt_fields ..).1, List.length_cons]
        exact hroom
      · exact h

/-- The preemption step ends where no preemption is wanted or the stack is full, or it has pushed as many contexts as it had
repetitions (R84). -/
theorem preemptLoop_ends (n : Nat) (s : State) :
    (preemptLoop n s).preemptWanted = none ∨ 8 ≤ (preemptLoop n s).stack.length ∨
      n + s.stack.length ≤ (preemptLoop n s).stack.length := by
  induction n generalizing s with
  | zero => exact .inr (.inr (by rw [Nat.zero_add]; exact Nat.le_refl _))
  | succ n ih =>
    unfold preemptLoop
    split
    · next hnone => exact .inl hnone
    · next e j t _ =>
      split
      · refine (ih (s.preempt e j t)).imp_right (Or.imp_right fun hle => ?_)
        rw [(s.preempt_fields e j t).1, List.length_cons] at hle
        omega
      · exact .inr (.inl (by omega))

/-- No fill takes a context but from the stack (R83). -/
theorem State.fill_stack_le (s : State) : s.fill.stack.length ≤ s.stack.length := by
  have hstep : ∀ (x : State) (e : EngineId), (x.fillEngine e).stack.length ≤ x.stack.length := fun x e => by
    unfold State.fillEngine
    split
    · exact Nat.le_refl _
    · split
      · exact Nat.le_refl _
      · exact (congrArg List.length (x.grant_fields e _).2.1).le
      · next c k hk _ => rw [(x.resume_fields e _ _).2.1, hk]; exact Nat.le_succ _
      · next c k t _ hk _ =>
        split
        · exact (congrArg List.length (x.grant_fields e _).2.1).le
        · rw [(x.resume_fields e _ _).2.1, hk]; exact Nat.le_succ _
  exact (((hstep _ 3).trans (hstep _ 2)).trans (hstep _ 1)).trans (hstep s 0)

theorem State.evaluate_runs {s : State} (hhold : s.hold = false) (hmode : s.mode ≠ .outage) :
    s.evaluate = preemptLoop 8 s.fill := by
  unfold State.evaluate
  rw [if_neg (by simp [hhold, hmode])]

theorem State.evaluate_stack_le {s : State} (h : s.stack.length ≤ 8) : s.evaluate.stack.length ≤ 8 := by
  unfold State.evaluate
  split
  · exact h
  · exact preemptLoop_stack_le 8 _ (s.fill_stack_le.trans h)

/-- A state the arbiter has worked on differs in the fields it writes (R80). -/
theorem State.eq_of_arbKept {s v : State} (h : v.arbKept = s.arbKept) :
    v = { s with terms := v.terms, marks := v.marks, queue := v.queue, stack := v.stack, serial := v.serial,
                 engines := v.engines } := by
  cases v
  cases s
  simp only [State.arbKept, State.kept, ArbKept.mk.injEq, Kept.mk.injEq] at h
  simp only [State.mk.injEq]
  tauto

/-- Settles O28: the fill step fills, the preemption step ends after at most 8 preemptions, and neither writes anything but
the arbiter's fields. -/
theorem evaluationDecides : Obligations.EvaluationDecides := by
  rintro s _ rfl
  refine ⟨fun hskip => ?_, fun hhold hmode => ?_⟩
  · show s.evaluate.reexamine = _
    rw [State.evaluate_skipped s hskip]
    rfl
  · have hruns := State.evaluate_runs hhold hmode
    refine ⟨?_, ?_, rfl, State.evaluate_stack_le, (Work.trigger s).close_keepsAdmitted, (Work.trigger s).close_sameButPlace, ?_⟩
    · show s.evaluate.Filled
      rw [hruns]
      exact preemptLoop_filled 8 _ s.fill_filled
    · show s.evaluate.preemptWanted = none ∨ 8 ≤ s.evaluate.stack.length
      rw [hruns]
      exact (preemptLoop_ends 8 s.fill).imp_right (Or.rec id fun hle => (Nat.le_add_right 8 _).trans hle)
    · exact congrArg State.reexamine (State.eq_of_arbKept s.evaluate_arbKept)

end Sys2Proof.Machine
end

section
/-! What the fill step and the preemption step take, as one write each (R81 to R86, R94, R95, R113), and the requests that set
and clear HOLD (R90, R91). -/

namespace Sys2Proof.Machine

/-! ### The steps of the evaluation as writes -/

/-- The job a grant begins (R82, R94, R95). -/
def grantJob (t : TermId) (cls : Nat) (serial : Serial) (p : Nat) : Job :=
  { term := t, cls := cls, serial := serial, phase := .coarse, pollPower := p
    limitCount := 0, confirmLeft := 0, pollInFlight := none, admitFrame := none, ramp := none
    settleMiss := 0, gate := some ⟨1, p, none, 0, 0, 0, 0⟩, lastSample := none, cmdFrame := none }

/-- The job a resume begins (R83, R95). -/
def Context.resumedJob (c : Context) (serial : Serial) (confirmCount depth p : Nat) : Job :=
  { term := c.term, cls := c.cls, serial := serial, phase := c.phase, pollPower := p
    limitCount := c.limitCount
    confirmLeft := if c.phase = .confirm then confirmCount else 0
    pollInFlight := none, admitFrame := none, ramp := none, settleMiss := 0
    gate := some ⟨if c.phase = .coarse then 1 else depth, p, none, 0, 0, 0, 0⟩
    lastSample := none, cmdFrame := none }

/-- The search start of R94 as a minimum. -/
theorem searchStart_eq (r : TermRec) (coarseStep : Nat) :
    searchStart r coarseStep = min (r.lossPower.elim r.startPower (· - coarseStep)) r.pmax := by
  unfold searchStart
  cases r.lossPower with
  | none => exact clampNat_zero ..
  | some l => exact clampNat_zero ..

theorem searchStart_le (r : TermRec) (coarseStep : Nat) : searchStart r coarseStep ≤ r.pmax := by
  rw [searchStart_eq]
  exact Nat.min_le_right ..

/-- A grant writes the record, the serial and the job (R82). -/
theorem State.grant_eq (s : State) (e : EngineId) (t : TermId) {x : State}
    (hx : ((s.leaveQueue t).transition t .queued .active).setTerm t
      { ((s.leaveQueue t).transition t .queued .active).term t with heard := false } = x) :
    s.grant e t = x.nextSerial.setJob e (some (grantJob t (x.term t).cls (x.serial + 1)
      (searchStart (x.term t) x.params.coarseStep))) := by
  have hjob : ∀ r serial coarse, (Job.fresh t r.cls serial .coarse (searchStart r coarse) 0 0).beginGate r =
      grantJob t r.cls serial (searchStart r coarse) := fun r serial coarse => by
    rw [Job.beginGate_eq]
    simp only [Job.fresh, grantJob, Nat.min_eq_left (searchStart_le r coarse), if_true]
  subst hx
  exact congrArg (fun j => State.setJob _ e (some j)) (hjob _ _ _)

/-- A grant to the head of the queue (R82, R94, R95). -/
theorem State.grant_head {s : State} (e : EngineId) {t : TermId} {rest : List TermId} (hq : s.queue = t :: rest)
    (ht : t ∉ rest) (hst : (s.term t).state = .queued) :
    s.grant e t = { s with
      terms := (s.setTerm t { s.term t with state := .active, heard := false }).terms
      marks := (s.mark t).marks, queue := rest, serial := s.serial + 1
      engines := (s.setJob e (some (grantJob t (s.term t).cls (s.serial + 1)
        (searchStart (s.term t) s.params.coarseStep)))).engines } := by
  have hrest : s.queue.filter (· ≠ t) = rest := by
    rw [hq, List.filter_cons_of_neg (by simp)]
    exact List.filter_eq_self.mpr fun u hu => by simpa using ne_of_mem_of_not_mem hu ht
  have hleave : s.leaveQueue t = s.setQueue rest := congrArg s.setQueue hrest
  have hwrite : ((s.leaveQueue t).transition t .queued .active).setTerm t
      { ((s.leaveQueue t).transition t .queued .active).term t with heard := false } =
      ((s.setQueue rest).setTerm t { s.term t with state := .active, heard := false }).mark t := by
    rw [hleave, State.transition_of_state (s.setQueue rest) _ _ _ hst, State.mark_setTerm, State.setTerm_setTerm, State.mark_term,
      State.setTerm_term_self]
    rfl
  rw [State.grant_eq s e t hwrite, State.mark_term, State.setTerm_term_self]
  rfl

/-- A resume of a SUSPENDED terminal's context (R83, R95). -/
theorem State.resume_top {s : State} (e : EngineId) {c : Context} (below : List Context)
    (hst : (s.term c.term).state = .suspended) :
    s.resume e c below = { s with
      terms := (s.setTerm c.term { s.term c.term with state := .active }).terms
      marks := (s.mark c.term).marks, stack := below, serial := s.serial + 1
      engines := (s.setJob e (some (c.resumedJob (s.serial + 1) s.params.confirmCount (s.term c.term).depth
        (min c.pollPower (s.term c.term).pmax)))).engines } := by
  have hwrite : (s.setStack below).transition c.term .suspended .active =
      ((s.setStack below).setTerm c.term { s.term c.term with state := .active }).mark c.term :=
    State.transition_of_state _ _ _ _ hst
  unfold State.resume
  dsimp only
  rw [hwrite, Job.beginGate_eq, State.nextSerial_term, State.mark_term, State.setTerm_term_self]
  rfl

/-- A preemption of an ACTIVE terminal's job by the head of the queue (R86, R113). -/
theorem State.preempt_head {s : State} (e : EngineId) {j : Job} {t : TermId} {rest : List TermId} (hq : s.queue = t :: rest)
    (ht : t ∉ rest) (hst : (s.term t).state = .queued) (hact : (s.term j.term).state = .active) :
    s.preempt e j t = { s with
      terms := ((s.setTerm j.term { s.term j.term with state := .suspended }).setTerm t
        { s.term t with state := .active, heard := false }).terms
      marks := ((s.mark j.term).mark t).marks, queue := rest, serial := s.serial + 1, stack := j.context :: s.stack
      engines := (s.setJob e (some (grantJob t (s.term t).cls (s.serial + 1)
        (searchStart (s.term t) s.params.coarseStep)))).engines } := by
  have hne : t ≠ j.term := fun h => by
    rw [h, hact] at hst
    cases hst
  generalize hx : ((s.setStack (j.context :: s.stack)).setTerm j.term { s.term j.term with state := .suspended }).mark j.term = x
  have hwrite : (s.setStack (j.context :: s.stack)).transition j.term .active .suspended = x :=
    (State.transition_of_state (s.setStack (j.context :: s.stack)) _ _ _ hact).trans hx
  have hterm : x.term t = s.term t := by
    rw [← hx, State.mark_term, State.setTerm_term_ne _ _ hne]
    rfl
  unfold State.preempt
  rw [hwrite, State.grant_head e (hx ▸ hq) ht (hterm ▸ hst), hterm, ← hx]
  rfl

/-! ### Where the evaluation stops -/

theorem State.fillEngine_busy {s : State} {e : EngineId} (h : (s.job e).isSome = true) : s.fillEngine e = s := by
  unfold State.fillEngine
  rw [if_pos h]

/-- An idle engine takes the head where it is of a smaller class than the stack top, or no context waits (R81). -/
theorem State.fillEngine_grants {s : State} {e : EngineId} {t : TermId} {rest : List TermId} (he : s.job e = none)
    (hq : s.queue = t :: rest) (hk : ∀ c ∈ s.stack.head?, (s.term t).cls < c.cls) : s.fillEngine e = s.grant e t := by
  unfold State.fillEngine
  rw [he, hq]
  cases hs : s.stack with
  | nil => rfl
  | cons c below => exact if_pos (hk c (by rw [hs]; rfl))

/-- Else it takes the stack top (R81). -/
theorem State.fillEngine_resumes {s : State} {e : EngineId} {c : Context} {below : List Context} (he : s.job e = none)
    (hk : s.stack = c :: below) (hq : ∀ t ∈ s.queue.head?, c.cls ≤ (s.term t).cls) :
    s.fillEngine e = s.resume e c below := by
  unfold State.fillEngine
  rw [he, hk]
  cases hs : s.queue with
  | nil => rfl
  | cons t rest => exact if_neg (Nat.not_lt.mpr (hq t (by rw [hs]; rfl)))

/-- A preemption is wanted where the conditions of R84 hold. -/
theorem State.preemptWanted_of {s : State} {e : EngineId} {j : Job} {t : TermId} {rest : List TermId}
    (hbusy : ∀ f, (s.job f).isSome = true) (hq : s.queue = t :: rest) (hv : s.victim = some (e, j))
    (hlt : (s.term t).cls < j.cls) : s.preemptWanted = some (e, j, t) := by
  unfold State.preemptWanted
  rw [if_pos (List.all_eq_true.mpr fun f _ => hbusy f), hq, hv]
  exact if_pos hlt

/-- With room on the stack the preemption step preempts and goes on (R84). -/
theorem preemptLoop_preempts {s : State} {e : EngineId} {j : Job} {t : TermId} (n : Nat)
    (h : s.preemptWanted = some (e, j, t)) (hroom : s.stack.length < 8) :
    preemptLoop (n + 1) s = preemptLoop n (s.preempt e j t) := by
  rw [preemptLoop, h]
  exact if_pos hroom

/-- Where nothing is wanted or the stack is full the preemption step ends (R84). -/
theorem preemptLoop_still {s : State} (n : Nat) (h : s.preemptWanted = none ∨ 8 ≤ s.stack.length) : preemptLoop n s = s := by
  cases n with
  | zero => rfl
  | succ n =>
    unfold preemptLoop
    split
    · rfl
    · next hw => exact if_neg (Nat.not_lt.mpr (h.resolve_left (by simp [hw])))

/-- Settles O29: each step of the evaluation is one of the lemmas above. -/
theorem fillTakesHeadOrTop : Obligations.FillTakesHeadOrTop := by
  refine ⟨fun s e => State.fillEngine_busy, fun s e he => ⟨fun hk hq => ?_, fun t rest hq ht hst hk => ?_,
    fun c below hk hq hst => ?_⟩, fun s => rfl, fun s hhold hmode => State.evaluate_runs hhold hmode,
    fun f j t rest n q hq ht hbusy hv hlt hroom hst hact => ?_, fun n q h => preemptLoop_still n ?_⟩
  · unfold State.fillEngine
    rw [he, hk, hq]
    rfl
  · refine ⟨_, searchStart (s.term t) s.params.coarseStep, State.fillEngine_grants he hq hk, (searchStart_eq _ _).trans ?_, ?_⟩
    · cases (s.term t).lossPower <;> rfl
    · rw [State.grant_head e hq ht hst]
      exact ⟨rfl, rfl, rfl, rfl⟩
  · refine ⟨_, _, State.fillEngine_resumes he hk hq, rfl, ?_⟩
    rw [State.resume_top e below hst]
    exact ⟨rfl, rfl, rfl, rfl⟩
  · refine ⟨_, searchStart (q.term t) q.params.coarseStep,
      preemptLoop_preempts n (State.preemptWanted_of hbusy hq hv hlt) hroom, (searchStart_eq _ _).trans ?_, ?_⟩
    · cases (q.term t).lossPower <;> rfl
    · rw [State.preempt_head f hq ht hst hact]
      exact ⟨rfl, rfl, rfl, rfl⟩
  · rcases h with ⟨i, hi⟩ | hq | hv | hk | ⟨f, j, t, rest, hq, hv, hle⟩
    · refine .inl (Option.eq_none_iff_forall_ne_some.mpr fun w hw => ?_)
      have := (State.preemptWanted_some hw).1 i
      simp [hi] at this
    · refine .inl (Option.eq_none_iff_forall_ne_some.mpr fun w hw => ?_)
      obtain ⟨rest, h⟩ := (State.preemptWanted_some hw).2.1
      simp [hq] at h
    · refine .inl (Option.eq_none_iff_forall_ne_some.mpr fun w hw => ?_)
      have := (State.preemptWanted_some hw).2.2.1
      simp [hv] at this
    · exact .inr hk
    · refine .inl (Option.eq_none_iff_forall_ne_some.mpr fun w hw => ?_)
      obtain ⟨-, ⟨rest', hq'⟩, hv', hlt⟩ := State.preemptWanted_some hw
      simp_all
      omega

end Sys2Proof.Machine
end

section
/-! HOLD, RELEASE and RESTART as requests (R90, R91, R169). -/

namespace Sys2Proof.Machine

/-- Settles O27: the three requests carry out a write to HOLD, nothing, and an evaluation that hangs on the arbiter's fields
alone. -/
theorem holdReleaseRestart : Obligations.HoldReleaseRestart := by
  intro tag s hb
  refine ⟨exec_carried (k := .hold) hb rfl rfl, exec_carried (k := .restart) hb rfl rfl,
    (exec_carried (k := .release) hb rfl rfl).trans (congrArg Host.Outcome.next ?_)⟩
  have hover : (Work.trigger { s.received .release tag [] with hold := false }).close =
      { (Work.trigger { s with hold := false }).close.over (s.received .release tag []) with
        preemptPending := (Work.trigger { s with hold := false }).close.preemptPending } :=
    Work.close_over { s with hold := false } (s.received .release tag []) true
  have hwrites := State.eq_of_arbKept (State.evaluate_arbKept { s with hold := false })
  show (Work.trigger { s.received .release tag [] with hold := false }).close.answer _ = _
  rw [hover]
  show State.answer { (State.evaluate { s with hold := false }).reexamine.over (s.received .release tag []) with
    preemptPending := _ } _ = (State.evaluate { s with hold := false }).reexamine.replied .release tag [] .ok []
  rw [hwrites]
  rfl

end Sys2Proof.Machine
end


section
/-! The control port owns its state: which fields a request leaves (R156, R170), and which fields nothing on the modem's
side reaches (R90, R161). -/

namespace Sys2Proof.Machine

/-- The fields no request's work writes: the port and the start cause (R156, R170). -/
structure Console where
  cpRx : Receiver
  reqBuf : Option ReqFrame
  reply : Option Reply
  startCause : StartCause

def State.console (s : State) : Console := ⟨s.cpRx, s.reqBuf, s.reply, s.startCause⟩

theorem console_of_kept {s v : State} (h : v.kept = s.kept) : v.console = s.console :=
  congrArg (fun k : Kept => Console.mk k.cpRx k.reqBuf k.reply k.startCause) h

/-! ### The requests -/

section Requests

variable {s : State} {n : Nat} {f : TermId → Answer} {P : State → Prop}

/-- A request on a terminal refuses, does nothing, or is carried out on the terminal it names (R8). -/
theorem State.onTerminal_ind (h : P s) (hf : ∀ t, P (f t).st) : P (s.onTerminal n f).st := by
  unfold State.onTerminal
  split
  · exact h
  · split
    · exact h
    · exact hf _

theorem State.onProvisioned_ind (h : P s) (hf : ∀ t, (s.term t).state ≠ .unused → P (f t).st) :
    P (s.onProvisioned n f).st := by
  refine State.onTerminal_ind h fun t => ?_
  split
  · exact h
  · next hst => exact hf t hst

end Requests

theorem Work.checkClearIf_kept (w : Work) (left : Bool) : (w.checkClearIf left).st.kept = w.st.kept := by
  unfold Work.checkClearIf
  split <;> simp

theorem State.takeOut_kept (s : State) (t : TermId) : (s.takeOut t).st.kept = s.kept := by
  unfold State.takeOut
  dsimp only
  split <;> rfl

theorem State.changeClass_kept (s : State) (t : TermId) (cls : Nat) : (s.changeClass t cls).st.kept = s.kept := by
  unfold State.changeClass
  split <;> rfl

theorem State.storeValues_kept (s : State) (t : TermId) (p : Provisioned) : (s.storeValues t p).st.kept = s.kept := by
  unfold State.storeValues
  dsimp only
  split
  · rfl
  · exact State.changeClass_kept _ _ _

theorem State.clampIfAbove_kept (s : State) (t : TermId) : (s.clampIfAbove t).kept = s.kept := by
  unfold State.clampIfAbove
  split
  · exact s.clampPower_kept t
  · rfl

theorem State.restoreNow_kept (s : State) (t : TermId) : (s.restoreNow t).st.kept = s.kept := by
  unfold State.restoreNow
  split <;> simp [Answer.done, Answer.refuse, State.requeueNow, Work.trigger]

/-- No request's work writes the port or the start cause; its reply is written after it (R158). -/
theorem carry_console (k : ReqKind) (body : List Byte) (s : State) : (carry k body s).st.console = s.console := by
  cases k with
  | provision =>
    refine State.onTerminal_ind (P := fun v => v.console = s.console) rfl fun t => ?_
    split
    · rfl
    · split
      · exact console_of_kept (by simp [Answer.done, State.provisionServing])
      · exact console_of_kept (by simp [Answer.done, State.provisionRestore, Work.trigger])
  | amend =>
    refine State.onProvisioned_ind (P := fun v => v.console = s.console) rfl fun t _ => console_of_kept ?_
    exact (Work.close_kept _).trans ((State.clampIfAbove_kept _ t).trans (s.storeValues_kept t _))
  | retire =>
    refine State.onProvisioned_ind (P := fun v => v.console = s.console) rfl fun t _ => console_of_kept ?_
    exact (Work.close_kept _).trans ((Work.checkClearIf_kept _ _).trans (s.takeOut_kept t))
  | bar =>
    refine State.onProvisioned_ind (P := fun v => v.console = s.console) rfl fun t _ => ?_
    split
    · rfl
    · exact console_of_kept ((Work.close_kept _).trans ((Work.checkClearIf_kept _ _).trans (s.takeOut_kept t)))
  | unbar =>
    refine State.onProvisioned_ind (P := fun v => v.console = s.console) rfl fun t _ => ?_
    split
    · exact console_of_kept (by simp [Answer.done, State.unbar, Work.trigger])
    · rfl
  | restoreNow =>
    exact State.onProvisioned_ind (P := fun v => v.console = s.console) rfl fun t _ =>
      console_of_kept (s.restoreNow_kept t)
  | readTerminal =>
    show (carryReadTerminal body s).st.console = s.console
    unfold carryReadTerminal
    dsimp only
    split
    · rfl
    · split
      · rfl
      · split <;> rfl
  | setLadder =>
    show (carrySetLadder body s).st.console = s.console
    unfold carrySetLadder
    dsimp only
    split <;> rfl
  | release => exact console_of_kept (s := { s with hold := false }) (Work.close_kept _)
  | status | setSector | readSector | hold | readChanges | readQueue | restart => rfl

theorem carry_startCause (k : ReqKind) (body : List Byte) (s : State) :
    (carry k body s).st.startCause = s.startCause := congrArg Console.startCause (carry_console k body s)

/-! ### The port's receiver -/

section Buffer

variable {s : State} {q : ReqFrame} {g : State → State} {P : State → Prop}

/-- A completed frame is discarded by an occupied buffer, and carried out in an empty one (R156). -/
theorem State.enterBuffer_ind (hfull : P s.cpHunt) (hg : s.reqBuf = none → P (g { s.cpHunt with reqBuf := some q })) :
    P (s.enterBuffer q g) := by
  unfold State.enterBuffer
  dsimp only
  split
  · exact hfull
  · next hbuf => exact hg (by simpa using hbuf)

end Buffer

theorem State.takeRequest_startCause (s : State) (k : ReqKind) (tag : Byte) (body : List Byte) :
    (s.takeRequest k tag body).startCause = s.startCause := by
  refine State.enterBuffer_ind (P := fun v => v.startCause = s.startCause) rfl fun _ => ?_
  dsimp only
  split
  · rfl
  · exact carry_startCause k body _

theorem State.takeControlFrame_startCause (s : State) (f : WireFrame) (good : Bool) :
    (s.takeControlFrame f good).startCause = s.startCause := by
  unfold State.takeControlFrame
  split
  · exact State.enterBuffer_ind (P := fun v => v.startCause = s.startCause) rfl fun _ => rfl
  · split
    · exact State.enterBuffer_ind (P := fun v => v.startCause = s.startCause) rfl fun _ => rfl
    · exact s.takeRequest_startCause _ _ _

theorem State.takeControlByte_startCause (s : State) (b : Byte) : (s.takeControlByte b).startCause = s.startCause := by
  unfold State.takeControlByte
  split
  · rfl
  · exact s.takeControlFrame_startCause _ _

/-! ### The modem's side -/

/-- The fields the control port alone writes (R90, R161). -/
structure Owned where
  console : Console
  params : SectorParams
  ladder : Ladder
  hold : Bool
  pending : List Instr

def State.owned (s : State) : Owned := ⟨s.console, s.params, s.ladder, s.hold, s.pending⟩

theorem owned_of_kept {s v : State} (h : v.kept = s.kept) : v.owned = s.owned :=
  congrArg (fun k : Kept =>
    Owned.mk ⟨k.cpRx, k.reqBuf, k.reply, k.startCause⟩ k.params k.ladder k.hold k.pending) h

theorem State.SlotsOnly.owned {s v : State} (h : s.SlotsOnly v) : v.owned = s.owned := by
  unfold State.SlotsOnly at h
  rw [h]
  rfl

theorem State.frameMark_owned (s : State) (n : FrameNo) (slots : Nat) : (s.frameMark n slots).owned = s.owned := by
  obtain ⟨x, k, hslots, hmark⟩ := s.frameMark_slots n slots
  have hclose : (s.counted n).markEnds.close.kept = (s.counted n).kept :=
    (Work.close_kept _).trans (s.counted n).markEnds_kept
  rw [hmark]
  exact (hslots.owned.trans (owned_of_kept hclose) :)

theorem State.takePollResult_kept (s : State) (tag outcome errors : Byte) (level : BitVec 16) :
    (s.takePollResult tag outcome level errors).kept = s.kept := by
  unfold State.takePollResult
  split
  · split <;> simp
  · rfl

theorem State.takeModemFrame_owned (s : State) (f : WireFrame) : (s.takeModemFrame f).owned = s.owned := by
  unfold State.takeModemFrame State.takeModemCommand
  split
  · rfl
  · split
    · exact s.mlHunt.frameMark_owned _ _
    · exact owned_of_kept (s := s.mlHunt) (State.takeReport_kept ..)
    · exact owned_of_kept (s := s.mlHunt) (State.takeReport_kept ..)
    · exact owned_of_kept (s := s.mlHunt) (State.takePollResult_kept ..)
    · rfl

theorem State.takeModemByte_owned (s : State) (b : Byte) : (s.takeModemByte b).owned = s.owned := by
  unfold State.takeModemByte
  split
  · rfl
  · split
    · exact s.takeModemFrame_owned _
    · rfl

/-- No command of the modem link, of the clock, or ending an operation writes what the control port owns. -/
theorem exec_owned {c : Instr} {s v : State} (hc : modemSide c = true) (hv : exec c s = .next v) :
    v.owned = s.owned := by
  suffices hnext : ∀ {x : State}, x.owned = s.owned → Host.Outcome.next x = (Host.Outcome.next v : Result) →
      v.owned = s.owned by
    cases c with
    | powerOn | cpLengthDiscard | cpGapDiscard | frameDiscardedBufferOccupied | badFrame | badKind | status | setSector
    | readSector | setLadder | provision | amend | retire | bar | unbar | restoreNow | readTerminal | hold | release
    | readChanges | readQueue | restart | replySent | restartReset | cpSyncFound => exact nomatch hc
    | mlLengthDiscard => exact hnext (s.takeModemByte_owned _) hv
    | mlSyncFound bytes =>
      exact hnext (List.foldlRecOn (motive := fun x : State => x.owned = s.owned) bytes _ rfl fun (x : State) hx b _ =>
        (x.takeModemByte_owned b).trans hx) hv
    | mlFrameDropped => exact hnext (s.takeModemFrame_owned _) hv
    | frame => exact hnext (s.mlHunt.frameMark_owned _ _) hv
    | burst | miss => exact hnext (owned_of_kept (s := s.mlHunt) (State.takeReport_kept ..)) hv
    | pollResult => exact hnext (owned_of_kept (s := s.mlHunt) (State.takePollResult_kept ..)) hv
    | mlGapDiscard | mlCrcDiscard | modemSilent | lossWindowExpiry | outboundMessageSent | commandEffective
    | ambiguityWindowClose =>
      cases hv
      rfl
    | backoffExpiry t =>
      refine hnext ?_ hv
      split
      · exact owned_of_kept (by simp)
      · rfl
    | rampTick e => exact hnext (owned_of_kept (s.tickIfDue_kept e)) hv
    | pollTimeout k =>
      refine hnext ?_ hv
      split
      · exact owned_of_kept (by simp)
      · rfl
  rintro x hx ⟨⟩
  exact hx

/-! ### The start cause -/

/-- The commands that set the start cause: power-on and RESTART's reset (R170). -/
def resets : Instr → Bool
  | .powerOn | .replySent | .restartReset => true
  | _ => false

theorem exec_startCause {c : Instr} {s v : State} (hc : resets c = false) (hv : exec c s = .next v) :
    v.startCause = s.startCause := by
  by_cases hm : modemSide c = true
  · exact congrArg (fun o : Owned => o.console.startCause) (exec_owned hm hv)
  suffices hnext : ∀ {x : State}, x.startCause = s.startCause →
      Host.Outcome.next x = (Host.Outcome.next v : Result) → v.startCause = s.startCause by
    cases c with
    | powerOn | replySent | restartReset => exact nomatch hc
    | mlLengthDiscard | mlSyncFound | mlFrameDropped | frame | burst | miss | pollResult | mlGapDiscard | mlCrcDiscard
    | modemSilent | lossWindowExpiry | outboundMessageSent | commandEffective | ambiguityWindowClose | backoffExpiry
    | rampTick | pollTimeout => exact absurd rfl hm
    | cpLengthDiscard => exact hnext (s.takeControlByte_startCause _) hv
    | cpGapDiscard =>
      cases hv
      rfl
    | cpSyncFound bytes =>
      exact hnext (List.foldlRecOn (motive := fun x : State => x.startCause = s.startCause) bytes _ rfl
        fun (x : State) hx b _ => (x.takeControlByte_startCause b).trans hx) hv
    | frameDiscardedBufferOccupied | badFrame | badKind => exact hnext (s.takeControlFrame_startCause _ _) hv
    | status | setSector | readSector | setLadder | provision | amend | retire | bar | unbar | restoreNow | readTerminal
    | hold | release | readChanges | readQueue | restart => exact hnext (s.takeRequest_startCause _ _ _) hv
  rintro x hx ⟨⟩
  exact hx

/-- A reset of RESTART sets the start cause to its own (R169, R170); else the reply's end leaves it. -/
theorem State.replyLeaves_startCause (s : State) :
    s.replyLeaves.startCause = .restart ∨ s.replyLeaves.startCause = s.startCause := by
  unfold State.replyLeaves
  split
  · exact .inl rfl
  · split <;> exact .inr rfl

/-- Settles O5: the commands that reset write the start cause, and no other does; the modem's side keeps what the port
owns. -/
theorem controlPortOwnsItsState : Obligations.ControlPortOwnsItsState := by
  refine ⟨fun c s v hv hne => ?_, fun c s v hc hv => ?_⟩
  · cases hr : resets c with
    | false => exact absurd (exec_startCause hr hv) hne
    | true =>
      cases c with
      | powerOn =>
        cases hv
        exact .inl ⟨rfl, rfl⟩
      | replySent =>
        cases hv
        exact .inr ⟨.inl rfl, s.replyLeaves_startCause.resolve_right hne⟩
      | restartReset =>
        have hv : Host.Outcome.next (if s.restartReplying then s.restarted .restart else s) =
          (Host.Outcome.next v : Result) := hv
        cases hv
        split at hne
        · next hreply => exact .inr ⟨.inr rfl, by rw [if_pos hreply]; rfl⟩
        · exact absurd rfl hne
      | _ => exact nomatch hr
  · have howned := exec_owned hc hv
    simp only [State.owned, State.console, Owned.mk.injEq, Console.mk.injEq] at howned
    obtain ⟨⟨hrx, hbuf, hreply, hcause⟩, hparams, hladder, hhold, hpending⟩ := howned
    exact ⟨⟨hrx, hbuf, hreply⟩, hcause, hparams, hladder, hhold, hpending⟩

end Sys2Proof.Machine
end


section
/-! The outline of a state: what the capacities and the engines' law speak of (R80, R87, R136 to R141), and the work that
leaves it as it was. -/

namespace Sys2Proof.Machine

/-- What the laws of the stack, the window, OUTAGE and the busy engines read of a state (R80, R87, R136, R141). -/
@[ext] structure Outline where
  params : SectorParams
  hold : Bool
  mode : Mode
  lossWindow : List Nat
  queue : List TermId
  depth : Nat
  busy : EngineId → Bool

def State.outline (s : State) : Outline :=
  ⟨s.params, s.hold, s.mode, s.lossWindow, s.queue, s.stack.length, fun e => (s.job e).isSome⟩

variable {s v : State} {e : EngineId} {j : Job} {t : TermId}

theorem State.busy_of_job (h : s.job e = some j) : s.outline.busy e = true := by
  simp [State.outline, h]

@[simp] theorem State.setTerm_outline (s : State) (t : TermId) (r : TermRec) : (s.setTerm t r).outline = s.outline := rfl
@[simp] theorem State.send_outline (s : State) (m : OutMsg) : (s.send m).outline = s.outline := rfl
@[simp] theorem State.mark_outline (s : State) (t : TermId) : (s.mark t).outline = s.outline := rfl
@[simp] theorem State.setPoll_outline (s : State) (k : PollTag) (p : Option PollEntry) :
    (s.setPoll k p).outline = s.outline := rfl
@[simp] theorem State.complete_outline (s : State) (t : TermId) : (s.complete t).outline = s.outline := rfl
@[simp] theorem State.freeSendOrder_outline (s : State) (n m : Nat) : (s.freeSendOrder n m).outline = s.outline := rfl

@[simp] theorem State.transition_outline (s : State) (t : TermId) (a b : TermState) :
    (s.transition t a b).outline = s.outline := by
  unfold State.transition
  split <;> simp

@[simp] theorem State.writeProfiles_outline (s : State) (t : TermId) (up down : Nat) :
    (s.writeProfiles t up down).outline = s.outline := by
  unfold State.writeProfiles
  dsimp only
  split <;> simp

/-- A busy engine works on: its job is written. -/
theorem State.setJob_outline (h : s.outline.busy e = true) : (s.setJob e (some j)).outline = s.outline := by
  have hbusy : ∀ f, ((s.setJob e (some j)).job f).isSome = (s.job f).isSome := fun f => by
    rw [State.setJob_job]
    split
    · next hf => exact hf ▸ h.symm
    · rfl
  exact Outline.ext rfl rfl rfl rfl rfl rfl (funext hbusy)

@[simp] theorem State.noteCommand_outline (s : State) (t : TermId) (f : FrameNo) :
    (s.noteCommand t f).outline = s.outline := by
  unfold State.noteCommand
  split
  · rfl
  · split
    · rfl
    · next hj =>
      split
      · exact State.setJob_outline (State.busy_of_job hj)
      · exact State.setJob_outline (State.busy_of_job hj)
      · rfl

@[simp] theorem State.requestPower_outline (s : State) (t : TermId) (p : Nat) :
    (s.requestPower t p).outline = s.outline := by
  unfold State.requestPower
  dsimp only
  split
  · simp
  · split <;> simp

@[simp] theorem State.clampPower_outline (s : State) (t : TermId) : (s.clampPower t).outline = s.outline := by
  simp [State.clampPower]

@[simp] theorem State.admitTerm_outline (s : State) (t : TermId) (p : Nat) : (s.admitTerm t p).outline = s.outline := by
  simp [State.admitTerm]

/-! ### The engines -/

theorem State.enterVerify_outline (h : s.outline.busy e = true) : (s.enterVerify e j).outline = s.outline :=
  State.setJob_outline h

theorem State.beginSettle_outline {f : FrameNo} (h : s.outline.busy e = true) :
    (s.beginSettle e j f).outline = s.outline := by
  unfold State.beginSettle
  dsimp only
  split
  · exact State.enterVerify_outline h
  · exact State.setJob_outline h

theorem State.endConfirm_outline {p fu : Nat} (h : s.outline.busy e = true) :
    (s.endConfirm e j p fu).outline = s.outline := by
  unfold State.endConfirm
  dsimp only
  rw [State.beginSettle_outline (by simpa using h)]
  simp

theorem State.searchAccepted_outline {p fu : Nat} (h : s.outline.busy e = true) :
    (s.searchAccepted e j p fu).outline = s.outline := by
  unfold State.searchAccepted
  dsimp only
  generalize (if j.phase = .confirm then j.confirmLeft - 1 else s.params.confirmCount - 1) = left
  split
  · exact State.endConfirm_outline h
  · exact State.setJob_outline h

theorem State.rampStep_outline {target step d : Nat} {dir : StepDir} (h : s.outline.busy e = true) :
    (s.rampStep e j target step dir d).outline = s.outline := by
  unfold State.rampStep
  dsimp only
  split
  · rw [State.enterVerify_outline (by simpa using h), State.requestPower_outline]
  · rw [State.setJob_outline (by simpa using h), State.requestPower_outline]

theorem State.rampTick_outline {rp : Ramp} (h : s.outline.busy e = true) : (s.rampTick e j rp).outline = s.outline := by
  unfold State.rampTick
  dsimp only
  split
  · exact State.enterVerify_outline h
  · split
    · exact State.setJob_outline (s := s.complete j.term) h
    · exact State.rampStep_outline (s := s.complete j.term) h

@[simp] theorem State.tickIfDue_outline (s : State) (e : EngineId) : (s.tickIfDue e).outline = s.outline := by
  rcases s.tickIfDue_cases e with heq | ⟨j, rp, hj, -, -, -, heq⟩
  · rw [heq]
  · rw [heq, State.rampTick_outline (State.busy_of_job hj)]

@[simp] theorem State.trackPower_outline (s : State) (t : TermId) (target : Nat) :
    (s.trackPower t target).outline = s.outline := by
  unfold State.trackPower
  dsimp only
  split
  · rfl
  · split <;> simp

@[simp] theorem State.takePair_outline (s : State) (t : TermId) (up down : Nat) (upgraded : Bool) :
    (s.takePair t up down upgraded).outline = s.outline := by
  unfold State.takePair
  dsimp only
  cases upgraded <;> split <;> simp

@[simp] theorem State.clampIfAbove_outline (s : State) (t : TermId) : (s.clampIfAbove t).outline = s.outline := by
  unfold State.clampIfAbove
  split <;> simp

/-! ### The slots of a mark -/

@[simp] theorem State.pollEngine_outline (s : State) (e : EngineId) (slot : Nat) :
    (s.pollEngine e slot).outline = s.outline := by
  unfold State.pollEngine
  split
  · next hj _ => exact State.setJob_outline (State.busy_of_job hj)
  · rfl

@[simp] theorem State.pollEngines_outline (s : State) (slot : Nat) (es : List EngineId) :
    (s.pollEngines slot es).outline = s.outline := by
  induction es generalizing s slot with
  | nil => rfl
  | cons e es ih => exact (ih _ _).trans (s.pollEngine_outline e slot)

/-! ### What the flag reads -/

/-- What preempt-pending is examined on, and the flag itself (R84, R89). -/
@[ext] structure Contest where
  flag : Bool
  serial : Serial
  queue : List TermId
  stack : List Context
  cls : TermId → Nat
  standing : EngineId → Option (Nat × Serial × Bool)

def State.contest (s : State) : Contest :=
  ⟨s.preemptPending, s.serial, s.queue, s.stack, fun u => (s.term u).cls, fun e => (s.job e).map Job.standing⟩

/-- The flag's law speaks of the contest alone (R89). -/
theorem FlagLaw.of_contest (h : FlagLaw s) (hv : v.contest = s.contest) : FlagLaw v := by
  simp only [State.contest, Contest.mk.injEq] at hv
  obtain ⟨hflag, hserial, hqueue, hstack, hcls, hjobs⟩ := hv
  exact hflag.trans (h.trans (State.preemptBlocked_congr hserial (congrFun hjobs) hqueue hstack (congrFun hcls)).symm)

theorem State.standing_of_job (h : s.job e = some j) : s.contest.standing e = some j.standing := by
  simp [State.contest, h]

@[simp] theorem State.send_contest (s : State) (m : OutMsg) : (s.send m).contest = s.contest := rfl

theorem State.setTerm_contest {r : TermRec} (h : r.cls = (s.term t).cls) : (s.setTerm t r).contest = s.contest := by
  have hcls : ∀ u, ((s.setTerm t r).term u).cls = (s.term u).cls := fun u => by
    rw [State.setTerm_term]
    split
    · next hu => rw [hu, h]
    · rfl
  exact Contest.ext rfl rfl rfl rfl (funext hcls) rfl

/-- A job rewritten in its engine, its standing kept. -/
theorem State.setJob_contest {i : Job} (h : s.contest.standing e = some i.standing)
    (hj : j.standing = i.standing := by rfl) : (s.setJob e (some j)).contest = s.contest := by
  have hstanding : ∀ f, ((s.setJob e (some j)).job f).map Job.standing = (s.job f).map Job.standing := fun f => by
    rw [State.setJob_job]
    split
    · next hf => exact hf ▸ (congrArg some hj).trans h.symm
    · rfl
  exact Contest.ext rfl rfl rfl rfl rfl (funext hstanding)

theorem TermRec.completed_cls (r : TermRec) (n : FrameNo) : (r.completed n).cls = r.cls := by
  unfold TermRec.completed TermRec.effective
  split
  · split <;> rfl
  · rfl

@[simp] theorem State.complete_contest (s : State) (t : TermId) : (s.complete t).contest = s.contest :=
  State.setTerm_contest (TermRec.completed_cls _ _)

@[simp] theorem State.closeWindow_contest (s : State) (t : TermId) : (s.closeWindow t).contest = s.contest := by
  refine State.setTerm_contest ?_
  unfold TermRec.windowClosed
  split <;> rfl

@[simp] theorem State.noteCommand_contest (s : State) (t : TermId) (f : FrameNo) :
    (s.noteCommand t f).contest = s.contest := by
  unfold State.noteCommand
  split
  · rfl
  · split
    · rfl
    · next hj =>
      split
      · exact State.setJob_contest (State.standing_of_job hj)
      · exact State.setJob_contest (State.standing_of_job hj)
      · rfl

@[simp] theorem State.requestPower_contest (s : State) (t : TermId) (p : Nat) :
    (s.requestPower t p).contest = s.contest := by
  unfold State.requestPower
  dsimp only
  split
  · exact s.complete_contest t
  · split
    · exact s.complete_contest t
    · rw [State.noteCommand_contest, State.send_contest, State.setTerm_contest (by rfl), State.complete_contest]

/-- SETTLE and VERIFY stand alike: neither searches (R84). -/
theorem Job.standing_of_phase {j j' : Job} (hp : j.phase.searching = false) (hp' : j'.phase.searching = false)
    (hcls : j'.cls = j.cls := by rfl) (hserial : j'.serial = j.serial := by rfl) : j'.standing = j.standing := by
  unfold Job.standing
  rw [hp, hp', hcls, hserial]

theorem State.enterVerify_contest {i : Job} (h : s.contest.standing e = some i.standing) (hp : i.phase = .settle)
    (hcls : j.cls = i.cls := by rfl) (hserial : j.serial = i.serial := by rfl) :
    (s.enterVerify e j).contest = s.contest :=
  State.setJob_contest h (Job.standing_of_phase (by rw [hp]; rfl) rfl hcls hserial)

theorem State.rampStep_contest {target step d : Nat} {dir : StepDir} (h : s.contest.standing e = some j.standing)
    (hp : j.phase = .settle) : (s.rampStep e j target step dir d).contest = s.contest := by
  unfold State.rampStep
  dsimp only
  split
  · exact (State.enterVerify_contest (by simpa using h) hp).trans (s.requestPower_contest _ _)
  · exact (State.setJob_contest (i := j) (by simpa using h)).trans (s.requestPower_contest _ _)

theorem State.rampTick_contest {rp : Ramp} (h : s.contest.standing e = some j.standing) (hp : j.phase = .settle) :
    (s.rampTick e j rp).contest = s.contest := by
  have hdone : (s.complete j.term).contest.standing e = some j.standing := by simpa using h
  unfold State.rampTick
  dsimp only
  split
  · exact State.enterVerify_contest h hp
  · split
    · exact (State.setJob_contest (i := j) hdone).trans (s.complete_contest _)
    · exact (State.rampStep_contest hdone hp).trans (s.complete_contest _)

@[simp] theorem State.tickIfDue_contest (s : State) (e : EngineId) : (s.tickIfDue e).contest = s.contest := by
  rcases s.tickIfDue_cases e with heq | ⟨j, rp, hj, hp, -, -, heq⟩
  · rw [heq]
  · rw [heq, State.rampTick_contest (State.standing_of_job hj) hp]

@[simp] theorem State.pollEngine_contest (s : State) (e : EngineId) (slot : Nat) :
    (s.pollEngine e slot).contest = s.contest := by
  unfold State.pollEngine
  split
  · next hj _ => exact State.setJob_contest (State.standing_of_job hj)
  · rfl

@[simp] theorem State.pollEngines_contest (s : State) (slot : Nat) (es : List EngineId) :
    (s.pollEngines slot es).contest = s.contest := by
  induction es generalizing s slot with
  | nil => rfl
  | cons e es ih => exact (ih _ _).trans (s.pollEngine_contest e slot)

/-- The sweep's polls write neither the outline nor the contest (R121, R127). -/
theorem State.pollSweep_kept_laws (n slot : Nat) (s : State) :
    (s.pollSweep slot n).outline = s.outline ∧ (s.pollSweep slot n).contest = s.contest := by
  induction n generalizing s slot with
  | zero => exact ⟨rfl, rfl⟩
  | succ n ih =>
    unfold State.pollSweep
    split
    · exact ih _ _
    · exact ⟨rfl, rfl⟩

/-- The slots of a mark write neither (R119 to R121). -/
theorem State.allocate_kept_laws (s : State) (slots : Nat) :
    (s.allocate slots).outline = s.outline ∧ (s.allocate slots).contest = s.contest := by
  unfold State.allocate
  dsimp only
  split
  · obtain ⟨hout, hcon⟩ := State.pollSweep_kept_laws
      (s.usableSlots slots - (s.pollOrder.take (s.usableSlots slots)).length)
      (s.pollOrder.take (s.usableSlots slots)).length (s.pollEngines 0 (s.pollOrder.take (s.usableSlots slots)))
    exact ⟨hout.trans (s.pollEngines_outline _ _), hcon.trans (s.pollEngines_contest _ _)⟩
  · exact ⟨s.pollEngines_outline _ _, s.pollEngines_contest _ _⟩

/-- A record written outside the queue leaves the flag's condition (R84, R89). -/
theorem State.preemptBlocked_setTerm_absent {r : TermRec} (h : t ∉ s.queue) :
    (s.setTerm t r).preemptBlocked = s.preemptBlocked := by
  have hvictim : (s.setTerm t r).victim = s.victim := rfl
  have hhead : ∀ u rest, s.queue = u :: rest → (s.setTerm t r).term u = s.term u := fun u rest hq => by
    rw [State.setTerm_term, if_neg fun hu => h (by rw [hq, hu]; exact .head _)]
  rw [Bool.eq_iff_iff, State.preemptBlocked_iff, State.preemptBlocked_iff, hvictim]
  refine and_congr_right fun _ => and_congr_right fun _ => exists_congr fun u => exists_congr fun rest => ?_
  refine exists_congr fun e => exists_congr fun j => and_congr_right fun hq => ?_
  rw [hhead u rest hq]

end Sys2Proof.Machine
end


section
/-! The laws of the stack, the window, OUTAGE and the busy engines through the work of one event (R80, R87, R136 to R141):
what holds before the event holds of every state its work passes through, but that engines may stand idle once an evaluation
is due. -/

namespace Sys2Proof.Machine

/-- The laws that hold of the state `base` hold of `s`; the one of the busy engines, where no evaluation is due. -/
structure State.Orderly (s base : State) (due : Bool) : Prop where
  sector : SectorLaw base → SectorLaw s
  stack : StackLaw base → StackLaw s
  outage : OutageLaw base → OutageLaw s
  window : SectorLaw base → WindowLaw base → WindowLaw s
  fill : CollectionsLaw base → FillLaw base → due = false → FillLaw s

/-- The work `w`, begun with `due`, passes through orderly states only. -/
abbrev Work.Orderly (w : Work) (base : State) (due : Bool) : Prop := w.st.Orderly base (due || w.due)

namespace State.Orderly

variable {base s v : State} {due due' : Bool} {e : EngineId} {j : Job} {t : TermId}

theorem refl (s : State) : s.Orderly s due := ⟨id, id, id, fun _ => id, fun _ h _ => h⟩

/-- An evaluation more is due, or the same. -/
theorem weaken (h : s.Orderly base due) (hdue : due' = false → due = false) : s.Orderly base due' :=
  ⟨h.sector, h.stack, h.outage, h.window, fun hc hf hd => h.fill hc hf (hdue hd)⟩

theorem triggered (h : s.Orderly base due) : s.Orderly base true := h.weaken nofun

/-- The laws speak of the outline alone. -/
theorem of_outline (h : s.Orderly base due) (hv : v.outline = s.outline) : v.Orderly base due := by
  simp only [State.outline, Outline.mk.injEq] at hv
  obtain ⟨hparams, hhold, hmode, hwin, hqueue, hdepth, hbusy⟩ := hv
  have hstack : s.stack = [] → v.stack = [] := fun hk => List.length_eq_zero_iff.mp (by rw [hdepth, hk]; rfl)
  have hjob : ∀ e, s.job e = none → v.job e = none := fun e he => by
    have hb := congrFun hbusy e
    rw [he] at hb
    simpa using hb
  exact {
    sector := fun hs => sectorLaw_congr hparams (h.sector hs)
    stack := fun hs => by rw [StackLaw, hdepth]; exact h.stack hs
    outage := fun ho hm => by
      obtain ⟨hj, hk⟩ := h.outage ho (hmode ▸ hm)
      exact ⟨fun e => hjob e (hj e), hstack hk⟩
    window := fun hs hw => by rw [WindowLaw, hwin]; exact h.window hs hw
    fill := fun hc hf hd hh hm => by
      refine (h.fill hc hf hd (hhold ▸ hh) (hmode ▸ hm)).imp (fun hj e => ?_) fun ⟨hq, hk⟩ => ⟨hqueue ▸ hq, hstack hk⟩
      exact (congrFun hbusy e).trans (hj e) }

/-- Work that makes an evaluation due: engines and stack places may come free, no job is made. -/
theorem worked (h : s.Orderly base due) (hparams : v.params = s.params := by rfl)
    (hmode : v.mode = .outage → s.mode = .outage := by exact id) (hwin : v.lossWindow = s.lossWindow := by rfl)
    (hdepth : v.stack.length ≤ s.stack.length := by exact le_rfl)
    (hjob : ∀ e, s.job e = none → v.job e = none := by exact fun _ => id) : v.Orderly base true where
  sector hs := sectorLaw_congr hparams (h.sector hs)
  stack hs := hdepth.trans (h.stack hs)
  outage ho hm := by
    obtain ⟨hj, hk⟩ := h.outage ho (hmode hm)
    exact ⟨fun e => hjob e (hj e), List.length_eq_zero_iff.mp (by simpa [hk] using hdepth)⟩
  window hs hw := by rw [WindowLaw, hwin]; exact h.window hs hw
  fill _ _ := nofun

/-- An engine comes free. -/
theorem idle (h : s.Orderly base due) : (s.setJob e none).Orderly base true :=
  h.worked (hjob := fun f hf => by rw [State.setJob_job]; split <;> [rfl; exact hf])

/-- The sector changes its mode, OUTAGE not being entered; leaving it makes an evaluation due (R80, R135, R142). -/
theorem setMode {m : Mode} (h : s.Orderly base due) (hm : m ≠ .outage) :
    (s.setMode m).Orderly base (due || s.mode = .outage) := by
  by_cases hs : s.mode = .outage
  · rw [decide_eq_true hs, Bool.or_true, State.setMode_eq]
    exact h.worked (hmode := fun hv => absurd hv hm)
  · rw [decide_eq_false hs, Bool.or_false, State.setMode_eq]
    exact ⟨h.sector, h.stack, fun _ hv => absurd hv hm, h.window,
      fun hc hf hd hh _ => h.fill hc hf hd hh hs⟩

theorem join (h : s.Orderly base due) : (s.join t).Orderly base true := by
  obtain ⟨-, -, -, hk, he, -, -, -, hw, hm, -⟩ := s.join_fields t
  refine h.worked (kept_params (s.join_kept t)) (fun hv => ?_) hw (by rw [hk]) fun e hj => ?_
  · rw [hm] at hv
    split at hv
    · exact nomatch hv
    · exact hv
  · rw [State.job_congr he]
    exact hj

/-- In OUTAGE no engine holds a job, the stack is empty, and so is the window (R139, R140). -/
theorem enterOutage (h : SectorLaw base → SectorLaw s) : s.enterOutage.Orderly base due := by
  obtain ⟨hm, -, -, -, hw, hk, hj, -⟩ := s.enterOutage_frame
  exact {
    sector := fun hs => sectorLaw_congr (kept_params s.enterOutage_kept) (h hs)
    stack := fun _ => by rw [StackLaw, hk]; exact Nat.zero_le 8
    outage := fun _ _ => ⟨hj, hk⟩
    window := fun _ _ => by rw [WindowLaw, hw]; exact ⟨by decide, nofun⟩
    fill := fun _ _ _ _ hv => absurd hm hv }

/-! ### The work -/

theorem quiet (h : s.Orderly base due) : (Work.quiet s).Orderly base due := by
  simpa [Work.Orderly, Work.quiet] using h

theorem trigger (h : s.Orderly base due') : (Work.trigger s).Orderly base due := by
  simpa [Work.Orderly, Work.trigger] using h.triggered

theorem andThen {w : Work} {f : State → Work} (h : w.Orderly base due)
    (hf : ∀ {due'}, w.st.Orderly base due' → (f w.st).Orderly base due') : (w.andThen f).Orderly base due := by
  simpa [Work.Orderly, Work.andThen, Bool.or_assoc] using hf h

theorem foldl_andThen {α : Type} {f : State → α → Work}
    (hf : ∀ {y a due'}, y.Orderly base due' → (f y a).Orderly base due') (l : List α) {w : Work}
    (h : w.Orderly base due) : (l.foldl (fun w a => w.andThen (fun s => f s a)) w).Orderly base due :=
  List.foldlRecOn (motive := fun w : Work => w.Orderly base due) l _ h fun _ hw _ _ => hw.andThen hf

theorem checkClear {w : Work} (h : w.Orderly base due) : w.checkClear.Orderly base due := by
  unfold Work.checkClear
  split
  · exact h
  · simpa [Bool.or_assoc] using h.setMode (m := .clear) (by decide)

theorem checkClearIf {w : Work} {left : Bool} (h : w.Orderly base due) : (w.checkClearIf left).Orderly base due := by
  unfold Work.checkClearIf
  split
  · exact h.checkClear
  · exact h

/-! ### Loss -/

/-- An entry joins a window that is not full; the one that would fill it reaches the quorum, which empties it (R138). -/
theorem offerLoss (h : s.Orderly base true) (hm : s.mode ≠ .clear) : s.offerLoss.Orderly base true := by
  unfold State.offerLoss
  split
  · exact h
  · next hout =>
    have hdegraded : s.mode = .degraded := by cases hs : s.mode <;> simp_all
    dsimp only
    split
    · exact enterOutage h.sector
    · next hquorum =>
      refine ⟨h.sector, h.stack, h.outage, fun hs hw => ?_, fun _ _ => nofun⟩
      have hshort : ¬ s.params.quorum ≤ (s.lossWindow ++ [s.params.windowLength]).length :=
        fun hq => hquorum ⟨hdegraded, hq⟩
      obtain ⟨-, hlives⟩ := h.window hs hw
      have hlaw : SectorLaw s := h.sector hs
      refine ⟨lt_of_lt_of_le (not_le.mp hshort) (by unfold SectorLaw at hlaw; omega), fun l hl => ?_⟩
      rcases List.mem_append.mp hl with hl | hl
      · exact hlives l hl
      · rw [List.mem_singleton.mp hl]
        unfold SectorLaw at hlaw
        omega

theorem lose {reason : LossReason} (h : s.Orderly base due) : (s.lose t reason).Orderly base true := by
  unfold State.lose
  dsimp only
  generalize hx : ((((s.complete t).send (.withdraw t)).setTerm t _).transition t .serving .queued) = x
  have hx : x.Orderly base due := hx ▸ h.of_outline (by simp)
  split
  · exact hx.join
  · refine hx.join.offerLoss ?_
    obtain ⟨-, -, -, -, -, -, -, -, -, hm, -⟩ := x.join_fields t
    rw [hm]
    split
    · decide
    · assumption

/-! ### The engines -/

/-- A busy engine works on. -/
theorem work (h : s.Orderly base due) (hb : s.outline.busy e = true) : (s.setJob e (some j)).Orderly base due :=
  h.of_outline (State.setJob_outline hb)

theorem exhaust (h : s.Orderly base due) : (s.exhaust e j).Orderly base true := by
  unfold State.exhaust
  dsimp only
  generalize hx : (if j.phase.admitted = true then _ else _) = x
  have hx : x.outline = s.outline := by
    rw [← hx]
    split <;> simp
  refine (h.of_outline ?_).idle
  split <;> simp [hx]

theorem returnToFine {power : Nat} (h : s.Orderly base due) (hb : s.outline.busy e = true) :
    (s.returnToFine e j power).Orderly base due := by
  unfold State.returnToFine
  dsimp only
  split
  · exact h.exhaust.trigger
  · exact ((h.of_outline (s.send_outline _)).work hb).quiet

theorem settleReport {b : FrameNo} {o : Option Response} (h : s.Orderly base due) (hb : s.outline.busy e = true) :
    (s.settleReport e j b o).Orderly base due := by
  unfold State.settleReport
  split
  · exact h.quiet
  · split
    · exact (h.work hb).quiet
    · dsimp only
      split
      · exact h.returnToFine hb
      · exact (h.work hb).quiet

theorem handBack {up down : Nat} (h : s.Orderly base due) : (s.handBack e t up down).Orderly base due := by
  unfold State.handBack
  exact (h.of_outline (by simp)).idle.trigger.checkClear

theorem judgeVerify {g : Gate} (h : s.Orderly base due) (hb : s.outline.busy e = true) :
    (s.judgeVerify e j g).Orderly base due := by
  unfold State.judgeVerify State.verifyAccepted
  split
  · dsimp only
    split
    · exact (h.of_outline (s.setTerm_outline _ _)).exhaust.trigger
    · exact (h.of_outline (s.setTerm_outline _ _)).handBack
  · exact h.returnToFine hb

theorem verifyReport {b : FrameNo} {o : Option Response} (h : s.Orderly base due) (hb : s.outline.busy e = true) :
    (s.verifyReport e j b o).Orderly base due := by
  unfold State.verifyReport
  split
  · exact h.quiet
  · split
    · exact h.quiet
    · dsimp only
      split
      · exact h.judgeVerify hb
      · exact (h.work hb).quiet

theorem searchMissed {g : Gate} {o : Verdict} (h : s.Orderly base due) (hb : s.outline.busy e = true) :
    (s.searchMissed e j g o).Orderly base due := by
  unfold State.searchMissed
  dsimp only
  split
  · exact h.exhaust.trigger
  · exact (h.work hb).quiet

theorem judgeSearch {g : Gate} (h : s.Orderly base due) (hb : s.outline.busy e = true) :
    (s.judgeSearch e j g).Orderly base due := by
  unfold State.judgeSearch
  split
  · exact (h.of_outline (State.searchAccepted_outline hb)).quiet
  · exact h.searchMissed hb

theorem handOutcome {o : Option Response} (h : s.Orderly base due) (hb : s.outline.busy e = true) :
    (s.handOutcome e j o).Orderly base due := by
  unfold State.handOutcome
  dsimp only
  split
  · exact (h.work hb).quiet
  · split
    · split
      · exact h.judgeSearch hb
      · exact (h.work hb).quiet
    · exact (h.work hb).quiet

/-! ### Traffic -/

theorem sampleBurst {b : FrameNo} {m : Response} (h : s.Orderly base due) : (s.sampleBurst t b m).Orderly base due := by
  unfold State.sampleBurst
  dsimp only
  split
  · exact (h.of_outline (v := (s.complete t).setTerm t _) (by simp)).lose.trigger
  · exact (h.of_outline (by simp)).quiet

theorem missedTraffic (h : s.Orderly base due) : (s.missedTraffic t).Orderly base due := by
  unfold State.missedTraffic
  dsimp only
  split
  · exact (h.of_outline (s.setTerm_outline t _)).lose.trigger
  · exact (h.of_outline (s.setTerm_outline t _)).quiet

theorem trackReport {b : FrameNo} {o : Option Response} (h : s.Orderly base due) :
    (s.trackReport t b o).Orderly base due := by
  unfold State.trackReport State.acceptedBurst
  split
  · split
    · dsimp only
      split
      · exact (h.of_outline (s.setTerm_outline t _)).quiet
      · exact (h.of_outline (s.setTerm_outline t _)).sampleBurst
    · exact h.missedTraffic
  · exact h.missedTraffic

theorem routeReport {b : FrameNo} {o : Option Response} (h : s.Orderly base due) :
    (s.routeReport t b o).Orderly base due := by
  unfold State.routeReport
  split
  · exact h.trackReport
  · split
    · exact h.quiet
    · split
      · exact h.quiet
      · next hj =>
        split
        · exact h.settleReport (State.busy_of_job hj)
        · exact h.verifyReport (State.busy_of_job hj)
        · exact h.quiet
  · exact h.quiet

/-! ### Polls -/

theorem hear (h : s.Orderly base due) : (s.hear t).Orderly base due := by
  unfold State.hear
  split
  · split
    · exact h.quiet
    · exact h.worked.trigger
  · exact (h.of_outline (v := (s.transition t .backoff .queued).setTerm t _) (by simp)).join.trigger
  · exact (h.of_outline (v := (s.transition t .held .queued).setTerm t _) (by simp)).join.trigger
  · exact h.quiet

theorem endOutage (h : s.Orderly base due) : s.endOutage.Orderly base due := by
  unfold State.endOutage
  split
  · exact (h.setMode (m := .degraded) (by decide)).trigger
  · exact h.quiet

theorem takeOutcome {k : PollTag} {o : Option Response} (h : s.Orderly base due) :
    (s.takeOutcome k o).Orderly base due := by
  have hfree : (s.setPoll k none).Orderly base due := h.of_outline rfl
  unfold State.takeOutcome State.matchOutcome
  split
  · exact h.quiet
  · split
    · unfold State.engineOutcome
      split
      · exact hfree.quiet
      · split
        · exact hfree.quiet
        · next hj =>
          split
          · exact hfree.handOutcome (State.busy_of_job hj)
          · exact hfree.quiet
    · unfold State.sweepOutcome
      split
      · exact hfree.quiet
      · split
        · exact hfree.quiet
        · split
          · exact hfree.quiet
          · exact hfree.hear.andThen fun hy => hy.endOutage

theorem timeoutIfDue {k : PollTag} (h : s.Orderly base due) : (s.timeoutIfDue k).Orderly base due := by
  unfold State.timeoutIfDue
  split
  · exact h.takeOutcome
  · exact h.quiet

theorem expireBackoff (h : s.Orderly base due) : (s.expireBackoff t).Orderly base due := by
  unfold State.expireBackoff
  split
  · exact (h.of_outline (v := (s.transition t .backoff .queued).setTerm t _) (by simp)).join.trigger
  · exact h.quiet

/-! ### A mark -/

/-- The ends of a mark's operations, once the spent entries have left the loss window (R137, R149). -/
theorem markEnds (h : s.expireLosses.Orderly base false) : s.markEnds.Orderly base false := by
  have hexpired : s.expireAll.Orderly base false := by
    unfold State.expireAll
    exact foldl_andThen (f := State.expireBackoff) (fun h => h.expireBackoff) _ h.quiet
  have hticked : s.tickAll.Orderly base false := by
    refine hexpired.andThen fun hy => quiet (hy.of_outline ?_)
    exact List.foldlRecOn (motive := fun x : State => x.outline = s.expireAll.st.outline) allEngines _ rfl
      fun (x : State) hx e _ => (x.tickIfDue_outline e).trans hx
  have htimed : s.timeAll.Orderly base false := by
    unfold State.timeAll
    exact foldl_andThen (f := State.timeoutIfDue) (fun h => h.timeoutIfDue) _ hticked
  exact htimed.andThen (f := fun s' => Work.quiet (s'.freeSendOrder s.outbox.length s.tickAll.st.outbox.length))
    fun hy => quiet (hy.of_outline (State.freeSendOrder_outline _ _ _))

/-- The counts of a mark, and the spent entries out of the loss window (R137, R149). -/
theorem counted {n : FrameNo} (h : s.Orderly base due) : (s.counted n).expireLosses.Orderly base due := by
  have hbusy : ∀ e, ((s.counted n).expireLosses.job e).isSome = (s.job e).isSome := fun e => by
    unfold State.counted State.countMark State.expireLosses State.job
    rw [mapPlaces_get, Option.isSome_map]
    rfl
  refine ⟨h.sector, h.stack, fun ho hm => ?_, fun hs hw => ?_, fun hc hf hd hh hm => ?_⟩
  · obtain ⟨hj, hk⟩ := h.outage ho hm
    refine ⟨fun e => ?_, hk⟩
    have hidle := hbusy e
    rw [hj e] at hidle
    simpa using hidle
  · obtain ⟨hlen, hlives⟩ := h.window hs hw
    have hwin : (s.counted n).expireLosses.lossWindow = (s.lossWindow.map (· - 1)).filter (· ≠ 0) := rfl
    rw [WindowLaw, hwin]
    refine ⟨lt_of_le_of_lt ((List.length_filter_le _ _).trans_eq (List.length_map _)) hlen, fun l hl => ?_⟩
    obtain ⟨hmem, hne⟩ := List.mem_filter.mp hl
    obtain ⟨m, hm, rfl⟩ := List.mem_map.mp hmem
    obtain ⟨-, hle⟩ := hlives m hm
    have hne : m - 1 ≠ 0 := by simpa using hne
    omega
  · exact (h.fill hc hf hd hh hm).imp_left fun hj e => (hbusy e).trans (hj e)

/-! ### The requests -/

theorem storeValues {p : Provisioned} (h : s.Orderly base due) : (s.storeValues t p).Orderly base due := by
  have hclass : ∀ {x : State} {c : Nat}, x.Orderly base due → (x.changeClass t c).Orderly base due := fun {x c} hx => by
    unfold State.changeClass
    split
    · exact hx.worked.trigger
    · refine (hx.worked (hjob := fun e he => ?_)).trigger
      unfold State.job at he ⊢
      rw [mapPlaces_get]
      exact congrArg (Option.map _) he
    · exact (hx.worked (hdepth := (List.length_map _).le)).trigger
    · exact (hx.of_outline (x.setTerm_outline _ _)).quiet
  unfold State.storeValues
  dsimp only
  split
  · exact (h.of_outline (s.setTerm_outline _ _)).quiet
  · exact hclass (h.of_outline (s.setTerm_outline _ _))

/-- A terminal taken out frees an engine or a stack place only where its state says that it had one (R6, R80). -/
theorem takeOut (h : s.Orderly base false) (hp : CollectionsLaw base → s.Placed False) :
    (s.takeOut t).Orderly base false := by
  have hjob : ∀ e, (s.takeOut t).st.job e = dropJobOf t (s.job e) := fun e => by
    unfold State.job
    rw [(s.takeOut_fields t).2.2, mapPlaces_get]
  rw [State.takeOut_eq] at hjob ⊢
  have hworked := h.worked (hdepth := List.length_filter_le _ s.stack)
    (hjob := fun e he => (hjob e).trans (by rw [he]; rfl))
  refine ⟨hworked.sector, hworked.stack, hworked.outage, hworked.window, fun hc hf hd hh hm => ?_⟩
  have hout : (s.term t).state ≠ .active ∧ (s.term t).state ≠ .suspended := by simpa using hd
  have hheld : ∀ e, dropJobOf t (s.job e) = s.job e := fun e => by
    cases hj : s.job e with
    | none => rfl
    | some j =>
      have hne : j.term ≠ t := fun ht => hout.1 ((hp hc).active (ht ▸ State.worker_of_job hj))
      exact if_neg hne
  refine (h.fill hc hf rfl hh hm).imp (fun hbusy e => ?_) fun ⟨hq, hk⟩ => ⟨?_, ?_⟩
  · rw [hjob, hheld]
    exact hbusy e
  · simp [hq]
  · simp [hk]

end State.Orderly

end Sys2Proof.Machine
end


section
/-! The laws of the stack, the window, OUTAGE and the busy engines, and the flag of R89, through every step. -/

namespace Sys2Proof.Machine

/-- The laws that hold of the state `base` hold of `s`, and so does the law of the flag (R80, R87, R89, R136 to R141). -/
structure State.Steady (s base : State) : Prop where
  laws : s.Orderly base false
  flag : CollectionsLaw base → FlagLaw base → FlagLaw s

/-- The rosters that may miss a terminal stand through every act (R6). -/
theorem State.Acts.placed_false {s v : State} (h : s.Acts v) (hp : s.Placed False) : v.Placed False :=
  h.keeps (P := State.Placed False) (fun _ _ ha hc => ha.placed nofun hc) hp

/-- An evaluation fills the engines, but under HOLD and in OUTAGE, where their law says nothing (R80). -/
theorem State.Orderly.evaluate {s base : State} {due : Bool} (h : s.Orderly base due) :
    s.evaluate.Orderly base false := by
  by_cases hskip : s.hold = true ∨ s.mode = .outage
  · rw [State.evaluate_skipped s hskip]
    refine ⟨h.sector, h.stack, h.outage, h.window, fun _ _ _ hh hm => ?_⟩
    rcases hskip with hhold | hmode
    · rw [hhold] at hh
      exact nomatch hh
    · exact absurd hmode hm
  · obtain ⟨hhold, hmode⟩ := not_or.mp hskip
    have harb := s.evaluate_arbKept
    exact {
      sector := fun hs => sectorLaw_congr (kept_params s.evaluate_kept) (h.sector hs)
      stack := fun hs => State.evaluate_stack_le (h.stack hs)
      outage := fun _ hv => absurd ((arbKept_mode harb).symm.trans hv) hmode
      window := fun hs hw => by rw [WindowLaw, arbKept_lossWindow harb]; exact h.window hs hw
      fill := fun _ _ _ _ _ => by
        rw [State.evaluate_runs (Bool.eq_false_iff.mpr hhold) hmode]
        exact preemptLoop_filled 8 _ s.fill_filled }

namespace State.Steady

variable {base s v : State} {e : EngineId} {t : TermId}

/-- The end of an event: its evaluation, and the flag re-examined (R80, R89). -/
theorem close {w : Work} (h : w.Orderly base false) : w.close.Steady base := by
  have hlaws : (if w.due then w.st.evaluate else w.st).Orderly base false := by
    split
    · exact h.evaluate
    · next hdue => exact h.weaken fun _ => by simpa using hdue
  exact ⟨hlaws.of_outline rfl, fun _ _ => rfl⟩

/-- Neither the outline nor what the flag reads is written. -/
theorem rest (h : s.Steady base) (hout : v.outline = s.outline := by rfl) (hcon : v.contest = s.contest := by rfl) :
    v.Steady base :=
  ⟨h.laws.of_outline hout, fun hc hf => (h.flag hc hf).of_contest hcon⟩

theorem foldl {α : Type} {f : State → α → State} (hf : ∀ {y a}, y.Steady base → (f y a).Steady base) (l : List α)
    (h : s.Steady base) : (l.foldl f s).Steady base :=
  List.foldlRecOn (motive := (State.Steady · base)) l _ h fun _ hs _ _ => hf hs

/-! ### The modem's side -/

theorem takeReport {terminal : Byte} {b : FrameNo} {o : Option Response} (h : s.Steady base) :
    (s.takeReport terminal b o).Steady base := by
  unfold State.takeReport
  split
  · exact h
  · split
    · exact h
    · exact close h.laws.routeReport

theorem takePollResult {tag outcome errors : Byte} {level : BitVec 16} (h : s.Steady base) :
    (s.takePollResult tag outcome level errors).Steady base := by
  unfold State.takePollResult
  split
  · split
    · exact h
    · exact close h.laws.takeOutcome
  · exact h

theorem frameMark {n : FrameNo} {slots : Nat} (h : s.Steady base) : (s.frameMark n slots).Steady base := by
  obtain ⟨hout, hcon⟩ := (s.counted n).markEnds.close.allocate_kept_laws (min slots 4)
  exact ((close h.laws.counted.markEnds).rest hout hcon).rest

theorem takeModemFrame {f : WireFrame} (h : s.Steady base) : (s.takeModemFrame f).Steady base := by
  have hhunt : s.mlHunt.Steady base := h.rest
  unfold State.takeModemFrame
  split
  · exact hhunt
  · unfold State.takeModemCommand
    split
    · exact hhunt.frameMark
    · exact hhunt.takeReport
    · exact hhunt.takeReport
    · exact hhunt.takePollResult
    · exact hhunt

theorem takeModemByte {b : Byte} (h : s.Steady base) : (s.takeModemByte b).Steady base := by
  unfold State.takeModemByte
  split
  · exact h.rest
  · split
    · exact h.takeModemFrame
    · exact h.rest

theorem expireLosses (h : s.Steady base) : s.expireLosses.Steady base := by
  refine ⟨⟨h.laws.sector, h.laws.stack, h.laws.outage, fun hs hw => ?_, h.laws.fill⟩, h.flag⟩
  obtain ⟨hlen, hlives⟩ := h.laws.window hs hw
  exact ⟨lt_of_le_of_lt (List.length_filter_le _ _) hlen, fun l hl => hlives l (List.mem_filter.mp hl).1⟩

/-! ### The requests -/

/-- A terminal that enters as SERVING was in no collection (R6, R11). -/
theorem provisionServing {body : List Byte} (h : s.Steady base) (hp : CollectionsLaw base → s.Placed False)
    (hst : (s.term t).state = .unused) : (s.provisionServing t body).Steady base := by
  rw [State.provisionServing_eq]
  refine ⟨h.laws.of_outline rfl, fun hc hf => (h.flag hc hf).trans ?_⟩
  have habsent : t ∉ s.queue := fun hmem => by
    have hqueued := (hp hc).queued hmem
    rw [hst] at hqueued
    exact nomatch hqueued
  exact (State.preemptBlocked_setTerm_absent habsent).symm

theorem restoreNow (h : s.Steady base) : (s.restoreNow t).st.Steady base := by
  have hrequeue : ∀ a, (s.requeueNow t a).Steady base := fun a =>
    close ((h.laws.of_outline (v := (s.setTerm t _).transition t a .queued) (by simp)).join.trigger)
  unfold State.restoreNow
  split
  · exact close h.laws.lose.trigger
  · exact hrequeue .backoff
  · exact hrequeue .held
  · exact h
  · exact h

/-- The terminal out of every collection, its record written, the mode checked (R16, R17). -/
theorem takeOut {r : TermRec} {left : Bool} (h : s.Steady base) (hp : CollectionsLaw base → s.Placed False) :
    (Work.checkClearIf ⟨((s.takeOut t).st.setTerm t r).mark t, (s.takeOut t).due⟩ left).close.Steady base :=
  close (State.Orderly.checkClearIf (w := ⟨_, _⟩)
    ((h.laws.takeOut hp).of_outline (v := ((s.takeOut t).st.setTerm t r).mark t) (by simp)))

theorem carry {k : ReqKind} {body : List Byte} (h : s.Steady base) (hp : CollectionsLaw base → s.Placed False) :
    (Machine.carry k body s).st.Steady base := by
  cases k with
  | provision =>
    refine State.onTerminal_ind (P := (State.Steady · base)) h fun t => ?_
    split
    · exact h
    · next hst =>
      split
      · exact h.provisionServing hp (by simpa using hst)
      · exact close (h.laws.of_outline (v := (s.setTerm t _).transition t .unused .queued) (by simp)).join.trigger
  | amend =>
    refine State.onProvisioned_ind (P := (State.Steady · base)) h fun t _ => ?_
    exact close (h.laws.storeValues.andThen fun hy => (hy.of_outline (State.clampIfAbove_outline _ t)).quiet)
  | retire => exact State.onProvisioned_ind (P := (State.Steady · base)) h fun t _ => h.takeOut hp
  | bar =>
    refine State.onProvisioned_ind (P := (State.Steady · base)) h fun t _ => ?_
    split
    · exact h
    · exact h.takeOut hp
  | unbar =>
    refine State.onProvisioned_ind (P := (State.Steady · base)) h fun t _ => ?_
    split
    · exact close (h.laws.of_outline (v := (s.setTerm t _).transition t .barred .queued) (by simp)).join.trigger
    · exact h
  | restoreNow => exact State.onProvisioned_ind (P := (State.Steady · base)) h fun t _ => h.restoreNow
  | readTerminal =>
    show (carryReadTerminal body s).st.Steady base
    unfold carryReadTerminal
    dsimp only
    split
    · exact h
    · split
      · exact h
      · split <;> exact h
  | setSector =>
    exact ⟨⟨fun _ => SectorParams.clamped_ranges s _, h.laws.stack, h.laws.outage, h.laws.window, h.laws.fill⟩, h.flag⟩
  | setLadder =>
    show (carrySetLadder body s).st.Steady base
    unfold carrySetLadder
    dsimp only
    split
    · exact h.rest
    · exact h
  | hold => exact ⟨⟨h.laws.sector, h.laws.stack, h.laws.outage, h.laws.window, fun _ _ _ => nofun⟩, h.flag⟩
  | release => exact close (h.laws.worked (v := { s with hold := false })).trigger
  | readChanges => exact h.rest
  | status | readSector | readQueue | restart => exact h

theorem takeRequest {k : ReqKind} {tag : Byte} {body : List Byte} (h : s.Steady base)
    (hp : CollectionsLaw base → s.Placed False) : (s.takeRequest k tag body).Steady base := by
  refine State.enterBuffer_ind (P := (State.Steady · base)) h.rest fun _ => ?_
  generalize hx : ({ s.cpHunt with reqBuf := some _ } : State) = x
  have hx' : x.Steady base := hx ▸ h.rest
  have hplaced : CollectionsLaw base → x.Placed False := fun hc =>
    hx ▸ (hp hc).congr (fun _ => rfl) rfl (fun _ => rfl) rfl
  dsimp only
  split
  · exact hx'.rest
  · exact (hx'.carry hplaced).rest

theorem takeControlFrame {f : WireFrame} {good : Bool} (h : s.Steady base)
    (hp : CollectionsLaw base → s.Placed False) : (s.takeControlFrame f good).Steady base := by
  unfold State.takeControlFrame
  split
  · exact State.enterBuffer_ind (P := (State.Steady · base)) h.rest fun _ => h.rest
  · split
    · exact State.enterBuffer_ind (P := (State.Steady · base)) h.rest fun _ => h.rest
    · exact h.takeRequest hp

theorem takeControlByte {b : Byte} (h : s.Steady base) (hp : CollectionsLaw base → s.Placed False) :
    (s.takeControlByte b).Steady base := by
  unfold State.takeControlByte
  split
  · exact h.rest
  · exact h.takeControlFrame hp

theorem takeControlBytes (bytes : List Byte) (h : s.Steady base) (hp : CollectionsLaw base → s.Placed False) :
    (bytes.foldl State.takeControlByte s).Steady base := by
  induction bytes generalizing s with
  | nil => exact h
  | cons b bytes ih =>
    exact ih (h.takeControlByte hp) fun hc => State.Acts.placed_false (State.Acts.takeControlByte .refl) (hp hc)

/-! ### The step -/

theorem restarted (s : State) (c : StartCause) : (s.restarted c).Steady base := by
  obtain ⟨-, -, -, -, -, -, -, hsector, -, hstack, -, hfill, hflag, houtage, hwindow, -, -⟩ := reset_sound
  have hreset : State.reset.Orderly base false :=
    ⟨fun _ => hsector, fun _ => hstack, fun _ => houtage, fun _ _ => hwindow, fun _ _ _ => hfill⟩
  exact rest (s := State.reset) ⟨hreset, fun _ _ => hflag⟩

/-- Every command keeps the laws. -/
theorem exec {c : Instr} (h : s.Steady base) (hp : CollectionsLaw base → s.Placed False)
    (hv : Machine.exec c s = .next v) : v.Steady base := by
  suffices hnext : ∀ {x : State}, x.Steady base → Host.Outcome.next x = (Host.Outcome.next v : Result) →
      v.Steady base by
    cases c with
    | powerOn => exact hnext (restarted s _) hv
    | replySent =>
      refine hnext ?_ hv
      unfold State.replyLeaves
      split
      · exact restarted s _
      · split
        · exact h.rest
        · exact h
    | restartReset =>
      refine hnext ?_ hv
      split
      · exact restarted s _
      · exact h
    | cpLengthDiscard => exact hnext (h.takeControlByte hp) hv
    | cpSyncFound bytes => exact hnext (h.takeControlBytes bytes hp) hv
    | frameDiscardedBufferOccupied | badFrame | badKind => exact hnext (h.takeControlFrame hp) hv
    | status | setSector | readSector | setLadder | provision | amend | retire | bar | unbar | restoreNow | readTerminal
    | hold | release | readChanges | readQueue | restart => exact hnext (h.takeRequest hp) hv
    | mlLengthDiscard => exact hnext h.takeModemByte hv
    | mlSyncFound bytes => exact hnext (foldl (f := State.takeModemByte) (fun h => h.takeModemByte) bytes h) hv
    | mlFrameDropped => exact hnext h.takeModemFrame hv
    | frame => exact hnext (frameMark (s := s.mlHunt) h.rest) hv
    | burst | miss => exact hnext (takeReport (s := s.mlHunt) h.rest) hv
    | pollResult => exact hnext (takePollResult (s := s.mlHunt) h.rest) hv
    | cpGapDiscard | mlGapDiscard | mlCrcDiscard | modemSilent | outboundMessageSent =>
      exact hnext h.rest hv
    | lossWindowExpiry => exact hnext h.expireLosses hv
    | commandEffective t => exact hnext (h.rest (s.complete_outline t) (s.complete_contest t)) hv
    | ambiguityWindowClose t => exact hnext (h.rest (s.setTerm_outline t _) (s.closeWindow_contest t)) hv
    | backoffExpiry =>
      refine hnext ?_ hv
      split
      · exact close h.laws.expireBackoff
      · exact h
    | rampTick e => exact hnext (h.rest (s.tickIfDue_outline e) (s.tickIfDue_contest e)) hv
    | pollTimeout =>
      refine hnext ?_ hv
      split
      · exact close h.laws.timeoutIfDue
      · exact h
  rintro x hx ⟨⟩
  exact hx

end State.Steady

theorem step_steady {s v : State} (hv : step s = .next v) : v.Steady s := by
  have hrefl : s.Steady s := ⟨.refl s, fun _ h => h⟩
  have hplaced : CollectionsLaw s → s.Placed False := fun hc => ((collectionsLaw_iff s).mp hc).weaken
  unfold step at hv
  split at hv
  · cases hv
    exact hrefl.rest
  · next c rest _ =>
    exact State.Steady.exec (s := { s with pending := rest }) hrefl.rest
      (fun hc => (hplaced hc).congr (fun _ => rfl) rfl (fun _ => rfl) rfl) hv

/-- Settles O59: the laws of the busy engines, of OUTAGE and of the flag are three of those every step keeps. -/
theorem stepKeepsEnginesBusy : Obligations.StepKeepsEnginesBusy := fun _ _ hv => by
  have h := step_steady hv
  exact ⟨fun hc hf => h.laws.fill hc hf rfl, h.laws.outage, h.flag⟩

/-! ### The buffer -/

theorem bufferLaw_of_console {s v : State} (h : v.console = s.console) (hs : BufferLaw s) : BufferLaw v := by
  simp only [State.console, Console.mk.injEq] at h
  obtain ⟨-, hbuf, hreply, -⟩ := h
  rw [BufferLaw, hbuf, hreply]
  exact hs

/-- A frame that completes in an empty buffer occupies it, and its reply starts on the line (R156, R158). -/
theorem State.takeRequest_buffer {s : State} {k : ReqKind} {tag : Byte} {body : List Byte} (h : BufferLaw s) :
    BufferLaw (s.takeRequest k tag body) := by
  refine State.enterBuffer_ind (P := BufferLaw) h fun _ => ?_
  dsimp only
  split
  · rfl
  · have hbuf := congrArg Console.reqBuf
      (carry_console k body { s.cpHunt with reqBuf := some ⟨⟨k.code, tag, body⟩, true⟩ })
    exact congrArg Option.isSome hbuf

theorem State.takeControlFrame_buffer {s : State} {f : WireFrame} {good : Bool} (h : BufferLaw s) :
    BufferLaw (s.takeControlFrame f good) := by
  unfold State.takeControlFrame
  split
  · exact State.enterBuffer_ind (P := BufferLaw) h fun _ => rfl
  · split
    · exact State.enterBuffer_ind (P := BufferLaw) h fun _ => rfl
    · exact State.takeRequest_buffer h

theorem State.takeControlByte_buffer {s : State} {b : Byte} (h : BufferLaw s) : BufferLaw (s.takeControlByte b) := by
  unfold State.takeControlByte
  split
  · exact h
  · exact State.takeControlFrame_buffer h

/-- The last byte of a reply leaves an empty buffer and no reply (R158, R169). -/
theorem State.replyLeaves_buffer {s : State} (h : BufferLaw s) : BufferLaw s.replyLeaves := by
  unfold State.replyLeaves
  split
  · rfl
  · split
    · rfl
    · exact h

/-- The modem's side leaves the port; a request fills the buffer and starts its reply, whose end empties both. -/
theorem exec_buffer {c : Instr} {s v : State} (h : BufferLaw s) (hv : exec c s = .next v) : BufferLaw v := by
  by_cases hm : modemSide c = true
  · exact bufferLaw_of_console (congrArg Owned.console (exec_owned hm hv)) h
  suffices hnext : ∀ {x : State}, BufferLaw x → Host.Outcome.next x = (Host.Outcome.next v : Result) → BufferLaw v by
    cases c with
    | mlLengthDiscard | mlSyncFound | mlFrameDropped | frame | burst | miss | pollResult | mlGapDiscard | mlCrcDiscard
    | modemSilent | lossWindowExpiry | outboundMessageSent | commandEffective | ambiguityWindowClose | backoffExpiry
    | rampTick | pollTimeout => exact absurd rfl hm
    | powerOn => exact hnext (x := s.restarted .powerOn) rfl hv
    | replySent => exact hnext (State.replyLeaves_buffer h) hv
    | restartReset =>
      refine hnext ?_ hv
      split
      · rfl
      · exact h
    | cpGapDiscard => exact hnext (x := s.cpHunt) h hv
    | cpLengthDiscard => exact hnext (State.takeControlByte_buffer h) hv
    | cpSyncFound bytes =>
      exact hnext (List.foldlRecOn (motive := BufferLaw) bytes _ h fun _ hx _ _ => State.takeControlByte_buffer hx) hv
    | frameDiscardedBufferOccupied | badFrame | badKind => exact hnext (State.takeControlFrame_buffer h) hv
    | status | setSector | readSector | setLadder | provision | amend | retire | bar | unbar | restoreNow | readTerminal
    | hold | release | readChanges | readQueue | restart => exact hnext (State.takeRequest_buffer h) hv
  rintro x hx ⟨⟩
  exact hx

theorem step_buffer {s v : State} (hv : step s = .next v) (h : BufferLaw s) : BufferLaw v := by
  unfold step at hv
  split at hv
  · cases hv
    exact h
  · next c rest _ => exact exec_buffer (s := { s with pending := rest }) h hv

/-- Settles O58: the capacities of the stack and the window with the other laws of the event, the buffer's apart. -/
theorem stepKeepsCapacities : Obligations.StepKeepsCapacities := fun _ _ hv => by
  have h := step_steady hv
  exact ⟨h.laws.stack, h.laws.window, step_buffer hv⟩

end Sys2Proof.Machine
end

section
/-! The return of an admitted job to FINE: a SETTLE miss at the miss limit, a VERIFY gate not ACCEPTED (R109, R110, R112). -/

namespace Sys2Proof.Machine

/-- The job on its return to FINE with poll power `p` and gates of depth `depth`, the limit count at `limit` (R110). -/
def Job.returned (j : Job) (limit p depth : Nat) : Job :=
  { j with
    phase := .fine, pollPower := p, limitCount := limit, admitFrame := none, ramp := none, cmdFrame := none
    gate := some ⟨depth, p, none, 0, 0, 0, 0⟩ }

/-- The limit count is raised where Pc is at Pmax (R110); short of its limit, or below the ceiling, the job returns. -/
theorem State.returnToFine_returns {s : State} {e : EngineId} {j : Job} {power limit : Nat}
    (hlimit : limit = if (s.term j.term).pmax ≤ (s.term j.term).pc then j.limitCount + 1 else j.limitCount)
    (hbelow : (s.term j.term).pc < (s.term j.term).pmax ∨ limit < s.params.limitPolls) :
    s.returnToFine e j power = .quiet ((s.send (.withdraw j.term)).setJob e
      (some (j.returned limit (min power (s.term j.term).pmax) (s.term j.term).depth))) := by
  unfold State.returnToFine
  by_cases hceiling : (s.term j.term).pmax ≤ (s.term j.term).pc
  · rw [if_pos hceiling] at hlimit
    have hmore : ¬ s.params.limitPolls ≤ j.limitCount + 1 := by omega
    simp [hceiling, hmore, hlimit, Job.raiseLimit_ceiling, Job.limitReached, Job.beginGate_eq, clampNat_zero, Job.returned]
  · rw [if_neg hceiling] at hlimit
    simp [hceiling, hlimit, Job.raiseLimit, Job.limitReached, Job.beginGate_eq, clampNat_zero, Job.returned]

/-- Settles O41: both judgements return the job to FINE, which sends WITHDRAW and writes the job with no trigger, so that the
end re-examines preempt-pending only. -/
theorem admittedReturnsToFine : Obligations.AdmittedReturnsToFine := by
  intro s m errors b level t e j c o limit power miss hm hh hc hreport hlimit hbelow
  obtain rfl := hh.term_eq
  have hreturn : s.mlHunt.takeReport m b o =
      (Work.quiet ((s.mlHunt.send (.withdraw j.term)).setJob e (some (({ j with settleMiss := miss } : Job).returned limit
        (min power (s.term j.term).pmax) (s.term j.term).depth)))).close := by
    rcases hreport with ⟨hp, hadmit, hreject, rfl, hmiss, rfl⟩ | ⟨hp, rfl, rfl, g, hg, hfrom, hdepth, hverdict⟩
    · rw [State.takeReport_settle (s := s.mlHunt) hm hh hp,
        State.settleReport_returns (s := s.mlHunt) (not_earlier_any hadmit) (not_accepted_any hreject) hmiss]
      exact congrArg Work.close (State.returnToFine_returns (s := s.mlHunt)
        (j := { j with settleMiss := min (j.settleMiss + 1) 15 }) hlimit hbelow)
    · rw [State.takeReport_verify (s := s.mlHunt) hm hh hp, State.verifyReport_full hg (not_earlier_any hfrom) hdepth,
        State.judgeVerify_returns (s := s.mlHunt) hverdict]
      exact congrArg Work.close (State.returnToFine_returns (s := s.mlHunt) (j := j) hlimit hbelow)
  have hexec := exec_report (s := s) hc
  rw [hreturn, Work.close_quiet] at hexec
  exact ⟨_, hexec, State.setJob_job_self s e _, rfl, rfl, rfl, rfl, rfl, rfl, rfl, rfl, rfl, rfl,
    fun e' he => State.setJob_job_ne s _ he, rfl, State.frame_of_kept rfl⟩

end Sys2Proof.Machine
end

section
/-! The slots of a mark (R117, R119 to R121, R127, R128): the polls issued one after another, each at the lowest free tag, as
one write of the poll table and of the outbound list. -/

namespace Sys2Proof.Machine

/-! ### Free tags and the polls issued at them -/

/-- A poll asked for: its terminal, its owner and its power (R117). -/
structure PollAsk where
  term : TermId
  owner : PollOwner
  power : Nat

/-- The entry with which a poll begins (R117). -/
def PollAsk.entry (a : PollAsk) : PollEntry := ⟨a.term, a.owner, a.power, 8, false⟩

/-- The free tags, lowest first. -/
def State.freeTags (s : State) : List PollTag := allTags.filter (fun k => s.poll k = none)

/-- The polls asked for, each with the tag it takes (R117). -/
def State.tagged (s : State) (asks : List PollAsk) : List (PollTag × PollAsk) :=
  (s.freeTags.take asks.length).zip asks

/-- The messages of tagged polls, in slot order from the slot `slot` (R117, R132). -/
def pollMessages (slot : Nat) (tagged : List (PollTag × PollAsk)) : List OutMsg :=
  tagged.mapIdx (fun i a => .poll a.1 a.2.term (slot + i) a.2.power)

theorem mem_allTags (k : PollTag) : k ∈ allTags := by revert k; decide

theorem State.mem_freeTags (s : State) (k : PollTag) : k ∈ s.freeTags ↔ s.poll k = none := by
  simp [State.freeTags, mem_allTags]

theorem State.freeTags_nodup (s : State) : s.freeTags.Nodup :=
  List.Nodup.filter _ (show allTags.Nodup by decide)

theorem State.freePlaces_eq (s : State) : s.freePlaces = s.freeTags.length := by
  simp only [State.freePlaces, State.freeTags, List.countP_eq_length_filter, ← Option.isNone_iff_eq_none, Bool.decide_eq_true]

theorem State.freeTag_eq (s : State) : s.freeTag = s.freeTags.head? := by
  simp only [State.freeTag, State.freeTags, List.head?_filter, ← Option.isNone_iff_eq_none, Bool.decide_eq_true]

section Tagged

variable {s x : State} {as bs : List PollAsk}

theorem State.tagged_tags (s : State) (as : List PollAsk) : (s.tagged as).map Prod.fst = s.freeTags.take as.length :=
  List.map_fst_zip (by simp)

theorem State.tagged_asks (h : as.length ≤ s.freeTags.length) : (s.tagged as).map Prod.snd = as :=
  List.map_snd_zip (by simpa using h)

theorem State.length_tagged (h : as.length ≤ s.freeTags.length) : (s.tagged as).length = as.length := by
  simp [State.tagged, h]

theorem State.tagged_getElem? {i : Nat} {k : PollTag} {a : PollAsk} (hk : s.freeTags[i]? = some k) (ha : as[i]? = some a) :
    (s.tagged as)[i]? = some (k, a) := by
  have hi : i < as.length := (List.getElem?_eq_some_iff.mp ha).1
  exact List.getElem?_zip_eq_some.mpr ⟨by rw [List.getElem?_take_of_lt hi, hk], ha⟩

/-- Later polls take the free tags that earlier ones leave. -/
theorem State.tagged_append (h : as.length ≤ s.freeTags.length) (hx : x.freeTags = s.freeTags.drop as.length) :
    s.tagged (as ++ bs) = s.tagged as ++ x.tagged bs := by
  unfold State.tagged
  rw [List.length_append, List.take_add, hx, List.zip_append (by simpa using h)]

theorem pollMessages_append (slot : Nat) (l l' : List (PollTag × PollAsk)) :
    pollMessages slot (l ++ l') = pollMessages slot l ++ pollMessages (slot + l.length) l' := by
  simp only [pollMessages, List.mapIdx_append, Nat.add_comm, Nat.add_left_comm]

end Tagged

/-- From `s` to `v` the polls asked for are issued, each at the lowest free tag, from the slot `slot` on (R117). Nothing is said
of what is neither in the poll table nor in the outbound list. -/
structure State.Issues (s v : State) (slot : Nat) (asks : List PollAsk) : Prop where
  room : asks.length ≤ s.freeTags.length
  sends : v.outbox = s.outbox ++ pollMessages slot (s.tagged asks)
  enters : ∀ a ∈ s.tagged asks, v.poll a.1 = some a.2.entry
  others : ∀ k, k ∉ s.freeTags.take asks.length → v.poll k = s.poll k

namespace State.Issues

variable {s x v : State} {slot : Nat} {as bs : List PollAsk}

theorem nil (s : State) (slot : Nat) : s.Issues s slot [] :=
  ⟨Nat.zero_le _, by simp [State.tagged, pollMessages], by simp [State.tagged], fun _ _ => rfl⟩

/-- One poll, at the lowest free tag. -/
theorem one {k : PollTag} {rest : List PollTag} {a : PollAsk} (hk : s.freeTags = k :: rest)
    (hout : v.outbox = s.outbox ++ [.poll k a.term slot a.power])
    (hpoll : ∀ l, v.poll l = if l = k then some a.entry else s.poll l) : s.Issues v slot [a] := by
  have htagged : s.tagged [a] = [(k, a)] := by simp [State.tagged, hk]
  refine ⟨by simp [hk], by rw [hout, htagged]; rfl, fun b hb => ?_, fun l hl => ?_⟩
  · obtain rfl : b = (k, a) := by simpa [htagged] using hb
    rw [hpoll, if_pos rfl]
  · have hne : l ≠ k := by simpa [hk] using hl
    rw [hpoll, if_neg hne]

/-- Every entry of the table is one that stood before or one that was issued. -/
theorem forall_poll (h : s.Issues v slot as) (P : PollEntry → Prop) :
    (∀ k p, v.poll k = some p → P p) ↔ (∀ k p, s.poll k = some p → P p) ∧ ∀ a ∈ as, P a.entry := by
  constructor
  · refine fun hv => ⟨fun k p hp => hv k p ((h.others k fun hk => ?_).trans hp), fun a ha => ?_⟩
    · rw [(s.mem_freeTags k).mp (List.mem_of_mem_take hk)] at hp
      cases hp
    · rw [← State.tagged_asks h.room] at ha
      obtain ⟨b, hb, rfl⟩ := List.mem_map.mp ha
      exact hv _ _ (h.enters b hb)
  · rintro ⟨hs, has⟩ k p hp
    by_cases hk : k ∈ s.freeTags.take as.length
    · rw [← State.tagged_tags s as] at hk
      obtain ⟨b, hb, rfl⟩ := List.mem_map.mp hk
      obtain rfl := Option.some.inj ((h.enters b hb).symm.trans hp)
      exact has _ (State.tagged_asks h.room ▸ List.mem_map_of_mem hb)
    · exact hs k p ((h.others k hk).symm.trans hp)

/-- The free tags left are those above the tags taken. -/
theorem freeTags (h : s.Issues v slot as) : v.freeTags = s.freeTags.drop as.length := by
  have hfree : ∀ k, v.poll k = none ↔ s.poll k = none ∧ k ∉ s.freeTags.take as.length := fun k => by
    by_cases hk : k ∈ s.freeTags.take as.length
    · have hentered : ∃ p, v.poll k = some p := by
        rw [← State.tagged_tags s as] at hk
        obtain ⟨b, hb, rfl⟩ := List.mem_map.mp hk
        exact ⟨_, h.enters b hb⟩
      simp [hk, Option.eq_none_iff_forall_ne_some, hentered]
    · simp [hk, h.others k hk]
  have hfilter : v.freeTags = s.freeTags.filter (fun k => k ∉ s.freeTags.take as.length) := by
    show allTags.filter _ = (allTags.filter _).filter _
    rw [List.filter_filter]
    exact List.filter_congr fun k _ => by simp [hfree, and_comm]
  have hdisjoint := List.disjoint_take_drop s.freeTags_nodup (le_refl as.length)
  rw [hfilter]
  conv_lhs => rw [← List.take_append_drop as.length s.freeTags]
  rw [List.filter_append, List.filter_eq_nil_iff.mpr, List.filter_eq_self.mpr, List.nil_append]
  · exact fun k hk => by simpa using fun hk' => hdisjoint hk' hk
  · exact fun k hk => by simpa using hk

theorem trans (h : s.Issues x slot as) (h' : x.Issues v (slot + as.length) bs) : s.Issues v slot (as ++ bs) := by
  have hfree := h.freeTags
  have htagged : s.tagged (as ++ bs) = s.tagged as ++ x.tagged bs := State.tagged_append h.room hfree
  have hlater : ∀ k ∈ s.freeTags.take as.length, k ∉ x.freeTags.take bs.length := fun k hk hk' =>
    List.disjoint_take_drop s.freeTags_nodup (le_refl as.length) hk (hfree ▸ List.mem_of_mem_take hk')
  refine ⟨?_, ?_, fun b hb => ?_, fun k hk => ?_⟩
  · have hroom := h'.room
    have hroom' := h.room
    rw [hfree, List.length_drop] at hroom
    rw [List.length_append]
    omega
  · rw [h'.sends, h.sends, htagged, pollMessages_append, State.length_tagged h.room, List.append_assoc]
  · rw [htagged] at hb
    rcases List.mem_append.mp hb with hb | hb
    · have hk : b.1 ∈ s.freeTags.take as.length := State.tagged_tags s as ▸ List.mem_map_of_mem hb
      rw [h'.others _ (hlater _ hk), h.enters b hb]
    · exact h'.enters b hb
  · rw [List.length_append, List.take_add, List.mem_append, not_or, ← hfree] at hk
    rw [h'.others k hk.2, h.others k hk.1]

/-- As many messages leave as polls are asked for. -/
theorem length_messages (h : s.Issues v slot as) : (pollMessages slot (s.tagged as)).length = as.length := by
  rw [pollMessages, List.length_mapIdx, State.length_tagged h.room]

/-- Each message is a POLL of its slot, with a new entry at its tag (R117, R132). -/
theorem message (h : s.Issues v slot as) {i : Nat} (hi : i < (pollMessages slot (s.tagged as)).length) :
    ∃ k t p o, (pollMessages slot (s.tagged as))[i] = .poll k t (slot + i) p ∧ v.poll k = some ⟨t, o, p, 8, false⟩ := by
  have htagged : i < (s.tagged as).length := by rwa [pollMessages, List.length_mapIdx] at hi
  exact ⟨(s.tagged as)[i].1, (s.tagged as)[i].2.term, (s.tagged as)[i].2.power, (s.tagged as)[i].2.owner,
    List.getElem_mapIdx .., h.enters _ (List.getElem_mem htagged)⟩

/-- The message and the entry of the poll in one slot. -/
theorem poll_at (h : s.Issues v slot as) {i : Nat} {k : PollTag} {a : PollAsk} (hk : s.freeTags[i]? = some k)
    (ha : as[i]? = some a) :
    (pollMessages slot (s.tagged as))[i]? = some (.poll k a.term (slot + i) a.power) ∧ v.poll k = some a.entry := by
  have htagged := State.tagged_getElem? hk ha
  refine ⟨?_, h.enters (k, a) (List.mem_of_getElem? htagged)⟩
  rw [pollMessages, List.getElem?_mapIdx, htagged, Option.map_some]

end State.Issues

end Sys2Proof.Machine
end

section
/-! Which polls the slots of a mark send: the engines in their order, then the sweep from its cursor on (R119 to R121, R127,
R128). -/

namespace Sys2Proof.Machine

/-! ### Lists in the order of a rank -/

section Ranked

variable {α : Type} {rank : α → Nat} {r : α → α → Prop}

theorem insertRanked_pairwise {x : α} {l : List α} (hx : ∀ y ∈ l, r x y)
    (hl : l.Pairwise fun a b => rank a < rank b ∨ (rank a = rank b ∧ r a b)) :
    (insertRanked rank x l).Pairwise fun a b => rank a < rank b ∨ (rank a = rank b ∧ r a b) := by
  induction l with
  | nil => simp [insertRanked]
  | cons y l ih =>
    obtain ⟨hy, hl'⟩ := List.pairwise_cons.mp hl
    unfold insertRanked
    split
    · next hle =>
      refine List.pairwise_cons.mpr ⟨fun z hz => ?_, hl⟩
      have hz' : rank y ≤ rank z := by
        rcases List.mem_cons.mp hz with rfl | hz
        · exact le_refl _
        · rcases hy z hz with h | h <;> omega
      have hxz := hx z hz
      exact (Nat.lt_or_eq_of_le (hle.trans hz')).imp_right (⟨·, hxz⟩)
    · next hlt =>
      refine List.pairwise_cons.mpr ⟨fun z hz => ?_, ih (fun z hz => hx z (List.mem_cons_of_mem _ hz)) hl'⟩
      rcases List.mem_cons.mp ((insertRanked_perm rank x l).mem_iff.mp hz) with rfl | hz
      · exact .inl (by omega)
      · exact hy z hz

/-- A list in the order of its ranks keeps its own order among equal ranks. -/
theorem sortRanked_pairwise {l : List α} (hl : l.Pairwise r) :
    (sortRanked rank l).Pairwise fun a b => rank a < rank b ∨ (rank a = rank b ∧ r a b) := by
  induction l with
  | nil => exact .nil
  | cons x l ih =>
    obtain ⟨hx, hl'⟩ := List.pairwise_cons.mp hl
    exact insertRanked_pairwise (fun y hy => hx y ((sortRanked_perm rank l).mem_iff.mp hy)) (ih hl')

end Ranked

/-! ### The engines' polls -/

/-- The poll an engine's job asks for (R117). -/
def Job.ask (j : Job) (e : EngineId) : PollAsk := ⟨j.term, .engine e j.serial, j.gatePower⟩

section Engines

variable {s : State} {e : EngineId} {j : Job} {slot : Nat}

theorem State.pollOrder_nodup (s : State) : s.pollOrder.Nodup :=
  (sortRanked_perm _ _).nodup_iff.mpr ((show allEngines.Nodup by decide).filter _)

theorem State.mem_pollOrder (s : State) (e : EngineId) :
    e ∈ s.pollOrder ↔ ∃ j, s.job e = some j ∧ j.phase.searching = true ∧ j.pollInFlight = none := by
  unfold State.pollOrder
  rw [(sortRanked_perm _ _).mem_iff, List.mem_filter]
  simp [mem_allEngines, State.needsPoll, Option.any_eq_true]

/-- Ascending class, then engine number (R120). -/
theorem State.pollOrder_pairwise (s : State) : s.pollOrder.Pairwise fun a b =>
    s.jobClass a < s.jobClass b ∨ (s.jobClass a = s.jobClass b ∧ a < b) :=
  sortRanked_pairwise ((show allEngines.Pairwise (· < ·) by decide).filter _)

theorem State.jobClass_eq (h : s.job e = some j) : s.jobClass e = j.cls := by
  simp [State.jobClass, h]

/-- An engine's poll at the lowest free tag (R117, R96). -/
theorem State.pollEngine_eq {k : PollTag} {rest : List PollTag} (hj : s.job e = some j) (hk : s.freeTags = k :: rest)
    (slot : Nat) :
    s.pollEngine e slot = (s.setJob e (some { j with pollInFlight := some k })).issuePoll k j.term (.engine e j.serial)
      j.gatePower slot := by
  have hfree : s.freeTag = some k := by rw [State.freeTag_eq, hk]; rfl
  unfold State.pollEngine
  rw [hj, hfree]

theorem State.pollEngine_issues {k : PollTag} {rest : List PollTag} (hj : s.job e = some j) (hk : s.freeTags = k :: rest) :
    s.Issues (s.pollEngine e slot) slot [j.ask e] := by
  rw [State.pollEngine_eq hj hk]
  exact .one hk rfl fun l => State.setPoll_poll ..

/-- The engines' polls go out in their order, and each job holds the tag of its poll (R117, R120). -/
theorem State.pollEngines_issues {jobs : EngineId → Job} (es : List EngineId) : ∀ (s : State) (slot : Nat), es.Nodup →
    (∀ e ∈ es, s.job e = some (jobs e)) → es.length ≤ s.freeTags.length →
    s.Issues (s.pollEngines slot es) slot (es.map fun e => (jobs e).ask e) ∧
    ∀ (i : Nat) (e : EngineId) (k : PollTag), es[i]? = some e → s.freeTags[i]? = some k →
      (s.pollEngines slot es).job e = some { jobs e with pollInFlight := some k } := by
  induction es with
  | nil => exact fun s slot _ _ _ => ⟨.nil s slot, nofun⟩
  | cons e es ih =>
    intro s slot hnodup hjobs hroom
    obtain ⟨he, hnodup'⟩ := List.nodup_cons.mp hnodup
    obtain ⟨k, rest, hk⟩ := List.exists_cons_of_length_pos (Nat.lt_of_lt_of_le (Nat.succ_pos _) hroom)
    have hj := hjobs e (List.mem_cons_self ..)
    have hfirst := State.pollEngine_issues (slot := slot) hj hk
    have hfree : (s.pollEngine e slot).freeTags = rest := by rw [hfirst.freeTags, hk]; rfl
    obtain ⟨hrest, hheld⟩ := ih (s.pollEngine e slot) (slot + 1) hnodup'
      (fun f hf => by
        have hne : f ≠ e := fun h => he (h ▸ hf)
        exact (State.pollEngine_job_ne hne).trans (hjobs f (List.mem_cons_of_mem _ hf)))
      (by rw [hk, List.length_cons, List.length_cons] at hroom; rw [hfree]; omega)
    refine ⟨hfirst.trans hrest, fun i f l hf hl => ?_⟩
    cases i with
    | zero =>
      obtain rfl : e = f := by simpa using hf
      obtain rfl : k = l := by simpa [hk] using hl
      refine (State.pollEngines_job_ne es he _ _).trans ?_
      rw [State.pollEngine_eq hj hk]
      exact State.setJob_job_self ..
    | succ i => exact hheld i f l hf (by rw [hfree]; simpa [hk] using hl)

end Engines

/-! ### The sweep's candidates -/

/-- The sweep candidates in the order in which the sweep looks (R127). -/
def State.candidates (s : State) : List TermId := (sweepOrder s.cursor).filter (fun t => s.candidate t)

/-- The poll the sweep asks for (R128). -/
def State.sweepAsk (s : State) (t : TermId) : PollAsk := ⟨t, .sweep, s.sweepPower t⟩

theorem State.nextCandidate_eq (s : State) : s.nextCandidate = s.candidates.head? := List.head?_filter.symm

theorem sweepOrder_eq_rotate (cursor : Nat) : sweepOrder cursor = allTerms.rotate (min cursor 64) := by
  have hlength : allTerms.length = 64 := List.length_finRange
  rw [List.rotate_eq_drop_append_take (by omega)]
  unfold sweepOrder
  by_cases h : cursor ≤ 64
  · rw [Nat.min_eq_left h]
  · rw [Nat.min_eq_right (by omega), List.drop_of_length_le (by omega), List.take_of_length_le (by omega),
      List.drop_of_length_le (by omega), List.take_of_length_le (by omega)]

theorem sweepOrder_nodup (cursor : Nat) : (sweepOrder cursor).Nodup := by
  rw [sweepOrder_eq_rotate, List.nodup_rotate]
  exact List.nodup_finRange 64

/-- With the cursor at a terminal the sweep looks at what stood after it, then at what stood before it, then at itself. -/
theorem sweepOrder_after {cursor : Nat} {t : TermId} {before after : List TermId}
    (h : sweepOrder cursor = before ++ t :: after) : sweepOrder (numberOf t) = after ++ before ++ [t] := by
  have hlength : allTerms.length = 64 := List.length_finRange
  rw [sweepOrder_eq_rotate] at h
  have hplace : t.val = (before.length + min cursor 64) % 64 := by
    have hget : (allTerms.rotate (min cursor 64))[before.length]? = some t := by rw [h]; simp
    obtain ⟨hlt, hget⟩ := List.getElem?_eq_some_iff.mp hget
    rw [List.getElem_rotate] at hget
    rw [← hget]
    simp [allTerms]
  have hrotate : allTerms.rotate (numberOf t) = allTerms.rotate (min cursor 64 + (before ++ [t]).length) := by
    rw [← List.rotate_mod, ← List.rotate_mod allTerms (_ + _), hlength, numberOf, hplace, List.length_append,
      List.length_singleton]
    congr 1
    omega
  have hle : min (numberOf t) 64 = numberOf t := Nat.min_eq_left (numberOf_le t)
  rw [sweepOrder_eq_rotate, hle, hrotate, ← List.rotate_rotate, h, List.append_cons, List.rotate_append_length_eq,
    List.append_assoc]

theorem TermState.swept_iff (st : TermState) : st.swept = true ↔ st ∈ [TermState.queued, .backoff, .held] := by
  cases st <;> decide

theorem State.candidate_iff (s : State) (t : TermId) : s.candidate t = true ↔
    (s.term t).state.swept = true ∧ ∀ k p, s.poll k = some p → p.owner ≠ .sweep ∨ p.term ≠ t := by
  rw [State.candidate, Bool.and_eq_true, Bool.not_eq_true', State.sweepInFlight, List.any_eq_false]
  refine and_congr_right fun _ => ?_
  simp only [mem_allTags, true_imp_iff]
  refine forall_congr' fun k => ?_
  cases s.poll k with
  | none => simp
  | some p => simp [← not_and_or, and_comm]

/-- A poll issued takes its terminal out of the candidates if it is the sweep's (R127). -/
theorem State.Issues.candidate_iff {s v : State} {slot : Nat} {asks : List PollAsk} (h : s.Issues v slot asks)
    (hterms : v.terms = s.terms) (t : TermId) :
    v.candidate t = true ↔ s.candidate t = true ∧ ∀ a ∈ asks, a.owner ≠ .sweep ∨ a.term ≠ t := by
  rw [State.candidate_iff, State.candidate_iff, State.term_congr hterms, and_assoc]
  exact and_congr_right fun _ => h.forall_poll fun p => p.owner ≠ .sweep ∨ p.term ≠ t

section Sweep

variable {s v : State} {t : TermId} {ts : List TermId} {slot : Nat}

/-- The engines' polls leave the candidates (R127). -/
theorem State.Issues.candidates_engines {es : List EngineId} {jobs : EngineId → Job}
    (h : s.Issues v slot (es.map fun e => (jobs e).ask e)) (hterms : v.terms = s.terms) (hcursor : v.cursor = s.cursor) :
    v.candidates = s.candidates := by
  unfold State.candidates
  rw [hcursor]
  refine List.filter_congr fun t _ => Bool.eq_iff_iff.mpr ((h.candidate_iff hterms t).trans (and_iff_left fun a ha => .inl ?_))
  obtain ⟨e, -, rfl⟩ := List.mem_map.mp ha
  nofun

/-- With the first candidate polled and the cursor at it, the other candidates stand in the same order (R127). -/
theorem State.Issues.candidates_sweep (h : s.Issues v slot [s.sweepAsk t]) (hterms : v.terms = s.terms)
    (hcursor : v.cursor = numberOf t) (hs : s.candidates = t :: ts) : v.candidates = ts := by
  obtain ⟨before, after, horder, hbefore, -, rfl⟩ := List.filter_eq_cons_iff.mp hs
  have hcandidate : ∀ u, v.candidate u = true ↔ s.candidate u = true ∧ t ≠ u := fun u => by
    simpa [State.sweepAsk] using h.candidate_iff hterms u
  have hnodup := sweepOrder_nodup s.cursor
  rw [horder] at hnodup
  have ht : t ∉ after := (List.nodup_cons.mp (List.nodup_append.mp hnodup).2.1).1
  unfold State.candidates
  rw [hcursor, sweepOrder_after horder, List.filter_append, List.filter_append,
    List.filter_eq_nil_iff.mpr fun u hu => mt (fun hv => ((hcandidate u).mp hv).1) (hbefore u hu),
    List.filter_eq_nil_iff.mpr fun u hu => mt (fun hv => ((hcandidate u).mp hv).2) (not_not.mpr (List.mem_singleton.mp hu).symm),
    List.append_nil, List.append_nil]
  exact List.filter_congr fun u hu => Bool.eq_iff_iff.mpr
    ((hcandidate u).trans (and_iff_left fun htu => ht (htu ▸ hu)))

/-- The sweep polls the first candidates in their order, and the cursor stands at the last one polled (R121, R127). -/
theorem State.pollSweep_issues (n : Nat) : ∀ (s : State) (slot : Nat), n ≤ s.freeTags.length →
    s.Issues (s.pollSweep slot n) slot ((s.candidates.take n).map s.sweepAsk) ∧
    (s.pollSweep slot n).cursor = ((s.candidates.take n).getLast?.map (fun t => t.val + 1)).getD s.cursor := by
  induction n with
  | zero => exact fun s slot _ => ⟨.nil s slot, rfl⟩
  | succ n ih =>
    intro s slot hroom
    obtain ⟨k, rest, hk⟩ := List.exists_cons_of_length_pos (Nat.lt_of_lt_of_le (Nat.succ_pos _) hroom)
    have hfree : s.freeTag = some k := by rw [State.freeTag_eq, hk]; rfl
    unfold State.pollSweep
    rw [State.nextCandidate_eq, hfree]
    cases hs : s.candidates with
    | nil => exact ⟨.nil s slot, rfl⟩
    | cons t ts =>
      have hfirst : s.Issues { s.issuePoll k t .sweep (s.sweepPower t) slot with cursor := numberOf t } slot [s.sweepAsk t] :=
        .one hk rfl fun l => State.setPoll_poll ..
      obtain ⟨hrest, hcursor⟩ := ih { s.issuePoll k t .sweep (s.sweepPower t) slot with cursor := numberOf t } (slot + 1)
        (by rw [hk, List.length_cons] at hroom; rw [hfirst.freeTags, hk]; simpa using hroom)
      rw [hfirst.candidates_sweep rfl rfl hs] at hrest hcursor
      refine ⟨hfirst.trans hrest, hcursor.trans ?_⟩
      rw [List.take_succ_cons, List.getLast?_cons]
      cases (ts.take n).getLast? <;> rfl

end Sweep

/-! ### The allocation -/

/-- The engines whose polls a mark's slots send (R119, R120). -/
def State.polledEngines (s : State) (slots : Nat) : List EngineId := s.pollOrder.take (s.usableSlots slots)

/-- The terminals that the sweep polls in the slots left (R119, R121). -/
def State.sweptTerms (s : State) (slots : Nat) : List TermId :=
  if s.sweepRuns then s.candidates.take (s.usableSlots slots - (s.polledEngines slots).length) else []

theorem State.sweepRuns_iff (s : State) :
    s.sweepRuns = true ↔ s.mode = .outage ∨ (s.mode = .degraded ∧ s.params.sweepOn = true) := by
  unfold State.sweepRuns
  cases s.mode <;> simp

theorem State.usableSlots_eq (s : State) (slots : Nat) :
    s.usableSlots slots = min (min slots s.params.slotsPerFrame) s.freeTags.length := by
  rw [State.usableSlots, State.freePlaces_eq]

/-- A mark sends no more polls than it has usable slots (R119). -/
theorem State.length_slots_le (s : State) (slots : Nat) :
    (s.polledEngines slots).length + (s.sweptTerms slots).length ≤ s.usableSlots slots := by
  have hengines : (s.polledEngines slots).length ≤ s.usableSlots slots := List.length_take_le ..
  have hswept : (s.sweptTerms slots).length ≤ s.usableSlots slots - (s.polledEngines slots).length := by
    unfold State.sweptTerms
    split
    · exact List.length_take_le ..
    · exact Nat.zero_le _
  omega

/-- The polls a mark's slots send, where the engines hold the jobs `jobs`: the engines' and then the sweep's (R120, R121). -/
def State.slotAsks (s : State) (jobs : EngineId → Job) (slots : Nat) : List PollAsk :=
  (s.polledEngines slots).map (fun e => (jobs e).ask e) ++ (s.sweptTerms slots).map s.sweepAsk

theorem State.length_slotAsks (s : State) (jobs : EngineId → Job) (slots : Nat) :
    (s.slotAsks jobs slots).length = (s.polledEngines slots).length + (s.sweptTerms slots).length := by
  rw [State.slotAsks, List.length_append, List.length_map, List.length_map]

theorem State.slotAsks_engine {s : State} {slots i : Nat} {e : EngineId} (jobs : EngineId → Job)
    (h : (s.polledEngines slots)[i]? = some e) : (s.slotAsks jobs slots)[i]? = some ((jobs e).ask e) := by
  have hi : i < (s.polledEngines slots).length := (List.getElem?_eq_some_iff.mp h).1
  rw [State.slotAsks, List.getElem?_append_left (by rwa [List.length_map]), List.getElem?_map, h, Option.map_some]

theorem State.slotAsks_sweep {s : State} {slots i : Nat} {t : TermId} (jobs : EngineId → Job)
    (h : (s.sweptTerms slots)[i]? = some t) :
    (s.slotAsks jobs slots)[(s.polledEngines slots).length + i]? = some (s.sweepAsk t) := by
  rw [State.slotAsks, List.getElem?_append_right (by rw [List.length_map]; omega), List.length_map,
    Nat.add_sub_cancel_left, List.getElem?_map, h, Option.map_some]

/-- What the sweep reads but for the poll table stands through the engines' polls (R121, R127, R128). -/
theorem State.pollEngines_sweep (s : State) (slot : Nat) (es : List EngineId) :
    (s.pollEngines slot es).sweepRuns = s.sweepRuns ∧ (s.pollEngines slot es).sweepAsk = s.sweepAsk ∧
    (s.pollEngines slot es).terms = s.terms ∧ (s.pollEngines slot es).cursor = s.cursor := by
  obtain ⟨hterms, -, -, hmode, -, hcursor⟩ := State.pollEngines_kept_records es slot s
  have hparams : (s.pollEngines slot es).params = s.params := congrArg Outline.params (s.pollEngines_outline slot es)
  refine ⟨by unfold State.sweepRuns; rw [hmode, hparams], funext fun t => ?_, hterms, hcursor⟩
  simp only [State.sweepAsk, State.sweepPower, State.term_congr hterms, hmode]

/-- The engines that a mark polls hold jobs, and a free tag stands for each (R119, R120). -/
theorem State.polledEngines_issues (s : State) (slots : Nat) {jobs : EngineId → Job}
    (hjobs : ∀ e j, s.job e = some j → jobs e = j) :
    s.Issues (s.pollEngines 0 (s.polledEngines slots)) 0 ((s.polledEngines slots).map fun e => (jobs e).ask e) ∧
    ∀ (i : Nat) (e : EngineId) (k : PollTag), (s.polledEngines slots)[i]? = some e → s.freeTags[i]? = some k →
      (s.pollEngines 0 (s.polledEngines slots)).job e = some { jobs e with pollInFlight := some k } := by
  refine State.pollEngines_issues _ s 0 (s.pollOrder_nodup.sublist (List.take_sublist ..)) (fun e he => ?_) ?_
  · obtain ⟨j, hj, -⟩ := (s.mem_pollOrder e).mp (List.mem_of_mem_take he)
    rw [hj, hjobs e j hj]
  · have hlength : (s.polledEngines slots).length ≤ s.usableSlots slots := List.length_take_le ..
    exact hlength.trans (s.usableSlots_eq slots ▸ Nat.min_le_right ..)

/-- The slots of a mark send the engines' polls, then the sweep's, and move nothing else but the jobs' polls in flight and the
cursor (R117, R119 to R121, R127). -/
theorem State.allocate_issues (s : State) (slots : Nat) {jobs : EngineId → Job}
    (hjobs : ∀ e j, s.job e = some j → jobs e = j) :
    s.Issues (s.allocate slots) 0 (s.slotAsks jobs slots) ∧
    (s.allocate slots).cursor = ((s.sweptTerms slots).getLast?.map (fun t => t.val + 1)).getD s.cursor ∧
    (∀ (i : Nat) (e : EngineId) (k : PollTag), (s.polledEngines slots)[i]? = some e → s.freeTags[i]? = some k →
      (s.allocate slots).job e = some { jobs e with pollInFlight := some k }) ∧
    ∀ e, e ∉ s.polledEngines slots → (s.allocate slots).job e = s.job e := by
  obtain ⟨hengines, hheld⟩ := s.polledEngines_issues slots hjobs
  have hothers : ∀ e, e ∉ s.polledEngines slots → (s.pollEngines 0 (s.polledEngines slots)).job e = s.job e := fun e he =>
    State.pollEngines_job_ne _ he s 0
  obtain ⟨hruns, hask, hterms, hcursor⟩ := s.pollEngines_sweep 0 (s.polledEngines slots)
  have hfree := hengines.freeTags
  have hcandidates := hengines.candidates_engines hterms hcursor
  have hallocate : s.allocate slots = if (s.pollEngines 0 (s.polledEngines slots)).sweepRuns
      then (s.pollEngines 0 (s.polledEngines slots)).pollSweep (s.polledEngines slots).length
        (s.usableSlots slots - (s.polledEngines slots).length)
      else s.pollEngines 0 (s.polledEngines slots) := rfl
  rw [hallocate, hruns]
  generalize s.pollEngines 0 (s.polledEngines slots) = x at *
  unfold State.slotAsks State.sweptTerms
  split
  · have husable := s.usableSlots_eq slots
    obtain ⟨hsweep, hlast⟩ := State.pollSweep_issues (s.usableSlots slots - (s.polledEngines slots).length) x
      (s.polledEngines slots).length (by rw [hfree, List.length_drop, List.length_map]; omega)
    have hjob := fun e => State.job_congr (State.pollSweep_kept_records
      (s.usableSlots slots - (s.polledEngines slots).length) (s.polledEngines slots).length x).2.1 e
    rw [hcandidates] at hsweep hlast
    rw [hask] at hsweep
    refine ⟨hengines.trans ?_, hlast.trans (by rw [hcursor]), fun i e k he hk => ?_, fun e he => ?_⟩
    · rwa [List.length_map, Nat.zero_add]
    · rw [hjob, hheld i e k he hk]
    · rw [hjob, hothers e he]
  · refine ⟨?_, hcursor, hheld, hothers⟩
    rwa [List.map_nil, List.append_nil]

end Sys2Proof.Machine
end

section
/-! A frame mark on the poll table: the ends of its operations send no poll and leave the entries with time left, and the slots
follow (R117 to R121, R127, R128, R132, R149). -/

namespace Sys2Proof.Machine

/-! ### Polls and their messages through the ends of a mark -/

/-- A message is a POLL. -/
def OutMsg.isPoll : OutMsg → Bool
  | .poll _ _ _ _ => true
  | _ => false

/-- The POLLs not yet sent. -/
def State.pollsOut (s : State) : List OutMsg := s.outbox.filter OutMsg.isPoll

section Ends

variable {s x : State} {e : EngineId} {j : Job} {k : PollTag} {p : PollEntry}

theorem State.pollsOut_congr (h : x.outbox = s.outbox) : x.pollsOut = s.pollsOut := by
  unfold State.pollsOut
  rw [h]

theorem State.pollsOut_append {sent : List OutMsg} (h : x.outbox = s.outbox ++ sent)
    (hsent : ∀ m ∈ sent, m.isPoll = false) : x.pollsOut = s.pollsOut := by
  unfold State.pollsOut
  rw [h, List.filter_append, List.filter_eq_nil_iff.mpr fun m hm => Bool.eq_false_iff.mp (hsent m hm), List.append_nil]

theorem OutMsg.isPoll_of_isPower {m : OutMsg} (h : m.isPower = true) : m.isPoll = false := by
  cases m with
  | power => rfl
  | _ => cases h

/-- The end of CONFIRM sends an ADMIT (R100). -/
theorem State.endConfirm_pollsOut (s : State) (e : EngineId) (j : Job) (q fu : Nat) :
    (s.endConfirm e j q fu).pollsOut = s.pollsOut := by
  obtain ⟨r, v, j', hend⟩ := s.endConfirm_cases e j q fu
  rw [hend]
  exact State.pollsOut_append ((s.setTerm j.term r).admitTerm_spec j.term v).2.2.1 (by simp [OutMsg.isPoll])

/-- A search gate judged sends no poll (R97 to R101). -/
theorem State.judgeSearch_pollsOut (h : j.phase.admitted = false) (g : Gate) :
    (s.judgeSearch e j g).st.pollsOut = s.pollsOut := by
  unfold State.judgeSearch
  split
  · rcases Nat.eq_zero_or_pos (if j.phase = .confirm then j.confirmLeft - 1 else s.params.confirmCount - 1) with hl | hl
    · rw [State.searchAccepted_ends hl, Work.quiet, State.endConfirm_pollsOut]
    · rw [State.searchAccepted_goes rfl hl]
      rfl
  · unfold State.searchMissed
    dsimp only
    split
    · refine State.pollsOut_congr (State.exhaust_outbox ?_)
      unfold Job.raiseLimit
      split <;> exact h
    · rfl

theorem State.handOutcome_pollsOut (s : State) (e : EngineId) (j : Job) (o : Option Response) :
    (s.handOutcome e j o).st.pollsOut = s.pollsOut := by
  unfold State.handOutcome
  dsimp only
  split
  · rfl
  · split
    · next hsearch =>
      split
      · refine State.judgeSearch_pollsOut ?_ _
        cases hp : j.phase <;> simp [hp, Phase.searching, Phase.admitted] at hsearch ⊢
      · rfl
    · rfl

/-- An outcome SILENT matched to its owner moves no poll (R118, R123, R129). -/
theorem State.matchOutcome_silent (s : State) (p : PollEntry) :
    (s.matchOutcome p none).st.polls = s.polls ∧ (s.matchOutcome p none).st.pollsOut = s.pollsOut := by
  unfold State.matchOutcome
  split
  · unfold State.engineOutcome
    split
    · exact ⟨rfl, rfl⟩
    · split
      · exact ⟨rfl, rfl⟩
      · split
        · exact ⟨State.handOutcome_polls .., State.handOutcome_pollsOut ..⟩
        · exact ⟨rfl, rfl⟩
  · unfold State.sweepOutcome
    split
    · exact ⟨rfl, rfl⟩
    · split <;> exact ⟨rfl, rfl⟩

/-- A timeout sends no poll and frees no place but its own (R118). -/
theorem State.timeoutIfDue_spares (hp : s.poll k = some p) (hleft : p.countdown ≠ 0) (l : PollTag) :
    (s.timeoutIfDue l).st.poll k = some p := by
  unfold State.timeoutIfDue
  split
  · next hdue =>
    obtain ⟨q, hq, hspent⟩ := (s.timedOut_iff l).mp hdue
    have hne : k ≠ l := by
      rintro rfl
      obtain rfl := Option.some.inj (hp.symm.trans hq)
      exact hleft hspent
    unfold State.takeOutcome
    rw [hq]
    refine (State.poll_congr (State.matchOutcome_silent _ q).1 k).trans ?_
    rw [State.setPoll_poll, if_neg hne, hp]
  · exact hp

theorem State.timeoutIfDue_pollsOut (s : State) (l : PollTag) : (s.timeoutIfDue l).st.pollsOut = s.pollsOut := by
  unfold State.timeoutIfDue State.takeOutcome
  split
  · split
    · rfl
    · exact (State.matchOutcome_silent _ _).2
  · rfl

theorem State.requestPower_polls (s : State) (t : TermId) (v : Nat) : (s.requestPower t v).polls = s.polls := by
  by_cases hg : ((s.term t).completed s.lastFrame).grants v
  · rw [State.requestPower_issued s t hg]
    exact (arbKept_polls (State.noteCommand_arbKept ..)).trans rfl
  · rw [State.requestPower_refused s t v hg]
    rfl

theorem State.tickIfDue_polls (s : State) (e : EngineId) : (s.tickIfDue e).polls = s.polls := by
  rcases s.tickIfDue_cases e with h | ⟨j, rp, -, -, -, -, h⟩
  · rw [h]
  · obtain ⟨x, j', htick, -, hx⟩ := s.rampTick_cases e j rp
    rw [h, htick, State.setJob_polls]
    rcases hx with rfl | rfl | ⟨v, rfl⟩
    · rfl
    · rfl
    · exact State.requestPower_polls ..

theorem State.expireBackoff_polls (s : State) (t : TermId) : (s.expireBackoff t).st.polls = s.polls := by
  unfold State.expireBackoff
  split
  · obtain ⟨-, -, -, -, -, -, -, hpolls, -⟩ := State.join_fields ((s.transition t .backoff .queued).setTerm t
      { (s.transition t .backoff .queued).term t with heard := false }) t
    exact hpolls.trans (arbKept_polls (State.transition_arbKept ..))
  · rfl

/-- The expiries and the ramp ticks of a mark move no poll (R103, R106). -/
theorem State.tickAll_polls (s : State) : s.tickAll.st.polls = s.polls := by
  have hexpire : ∀ (l : List TermId) (w : Work),
      (l.foldl (fun (w : Work) t => w.andThen (fun s => s.expireBackoff t)) w).st.polls = w.st.polls := fun l => by
    induction l with
    | nil => exact fun _ => rfl
    | cons t l ih => exact fun w => (ih _).trans (w.st.expireBackoff_polls t)
  have htick : ∀ (l : List EngineId) (x : State), (l.foldl State.tickIfDue x).polls = x.polls := fun l => by
    induction l with
    | nil => exact fun _ => rfl
    | cons e l ih => exact fun x => (ih _).trans (x.tickIfDue_polls e)
  rw [State.tickAll_st, htick]
  exact hexpire _ _

/-- A property that the timeouts keep one by one is kept by all of a mark's. -/
theorem State.timeAll_keeps {P : State → Prop} (h : ∀ y l, P y → P (y.timeoutIfDue l).st) (hs : P s.tickAll.st) :
    P s.timeAll.st := by
  have hfold : ∀ (l : List PollTag) (w : Work), P w.st →
      P (l.foldl (fun (w : Work) k => w.andThen (fun s => s.timeoutIfDue k)) w).st := fun l => by
    induction l with
    | nil => exact fun _ => id
    | cons k l ih => exact fun w hw => ih _ (h w.st k hw)
  exact hfold allTags s.tickAll hs

theorem State.freeSendOrder_poll (s : State) (n m : Nat) (k : PollTag) : (s.freeSendOrder n m).poll k = s.poll k := rfl

/-- The ends of a mark leave an entry with time left (R118). -/
theorem State.markEnds_poll (hp : s.poll k = some p) (hleft : p.countdown ≠ 0) : s.markEnds.st.poll k = some p := by
  rw [State.markEnds_st, State.freeSendOrder_poll]
  exact State.timeAll_keeps (P := fun y => y.poll k = some p) (fun _ l hy => State.timeoutIfDue_spares hy hleft l)
    ((State.poll_congr s.tickAll_polls k).trans hp)

/-- The ends of a mark send no poll: the slots come last (R149). -/
theorem State.markEnds_sends_no_poll (s : State) :
    ∃ sent, s.markEnds.st.outbox = s.outbox ++ sent ∧ ∀ m ∈ sent, m.isPoll = false := by
  obtain ⟨powers, hpowers, hpower⟩ := s.tickAll_sends
  obtain ⟨ticks, admits, sent, hall, hmerged, -, -, hperm, -⟩ := s.markEnds_sends
  have hout : s.timeAll.st.pollsOut = s.pollsOut :=
    State.timeAll_keeps (P := fun y => y.pollsOut = s.pollsOut) (fun y l hy => (y.timeoutIfDue_pollsOut l).trans hy)
      (State.pollsOut_append hpowers fun m hm => OutMsg.isPoll_of_isPower (hpower m hm))
  refine ⟨sent, hmerged, fun m hm => ?_⟩
  unfold State.pollsOut at hout
  rw [hall, List.filter_append, List.append_right_eq_self, List.filter_eq_nil_iff] at hout
  exact Bool.eq_false_iff.mpr (hout m (hperm.mem_iff.mp hm))

end Ends

theorem State.countMark_poll (s : State) (slip : Bool) (n : FrameNo) (k : PollTag) :
    (s.countMark slip n).poll k = (s.poll k).map PollEntry.countMark := mapPlaces_get ..

/-! ### The slots of a mark, as the statement tells them -/

theorem State.candidates_eq (s : State) :
    s.candidates = (allTerms.drop s.cursor ++ allTerms.take s.cursor).filter (fun t =>
      (s.term t).state ∈ [TermState.queued, .backoff, .held] ∧
        ∀ k, (s.poll k).all (fun p => p.owner ≠ .sweep ∨ p.term ≠ t)) := by
  refine List.filter_congr fun t _ => Bool.eq_iff_iff.mpr ((s.candidate_iff t).trans ?_)
  rw [decide_eq_true_iff, TermState.swept_iff]
  simp only [Option.all_eq_true, decide_eq_true_iff]

theorem State.sweepPower_eq (s : State) (t : TermId) :
    s.sweepPower t = if s.mode = .outage then (s.term t).pmax
      else min ((s.term t).lossPower.getD (s.term t).startPower) (s.term t).pmax := by
  unfold State.sweepPower
  dsimp only
  rw [clampNat_zero]

/-- A table of the engines' jobs; what stands at an idle engine does not matter. -/
theorem State.exists_jobs (s : State) : ∃ jobs : EngineId → Job, ∀ e j, s.job e = some j → jobs e = j :=
  ⟨fun e => (s.job e).getD (.fresh 0 0 0 .coarse 0 0 0), fun e j h => by simp [h]⟩

/-- A frame mark allocates its slots to the state that its counts, its ends and its evaluation leave, which has sent no poll and
moved no entry with time left (R118, R149). -/
theorem exec_frame_allocates (n : FrameNo) (slots : Byte) (s : State) : ∃ (u : State) (before : List OutMsg),
    exec (.frame n slots) s = .next { u.allocate (min slots.toNat 4) with freeIndex := s.freeIndex + 1 } ∧
    u.outbox = s.outbox ++ before ∧ (∀ m ∈ before, m.isPoll = false) ∧ u.params = s.params ∧ u.cursor = s.cursor ∧
    ∀ k p, s.poll k = some p → 2 ≤ p.countdown → u.poll k = some { p with countdown := p.countdown - 1 } := by
  obtain ⟨before, hbefore, hnopoll⟩ := (s.mlHunt.counted n).markEnds_sends_no_poll
  obtain ⟨-, hout, hpolls, -⟩ := (s.mlHunt.counted n).markEnds.close_fields
  have hkept : (s.mlHunt.counted n).markEnds.close.kept = (s.mlHunt.counted n).kept :=
    (Work.close_kept _).trans (State.markEnds_kept _)
  refine ⟨(s.mlHunt.counted n).markEnds.close, before, ?_, hout.trans hbefore, hnopoll, (kept_params hkept).trans rfl,
    (kept_cursor hkept).trans rfl, fun k p hp hleft => ?_⟩
  · have hfree : (s.mlHunt.counted n).markEnds.close.freeIndex = s.freeIndex := (kept_freeIndex hkept).trans rfl
    rw [← hfree, ← State.allocate_freeIndex _ (min slots.toNat 4)]
    rfl
  · have hcounted : (s.mlHunt.counted n).poll k = some { p with countdown := p.countdown - 1 } :=
      (State.countMark_poll ..).trans (congrArg (Option.map PollEntry.countMark) hp)
    exact (State.poll_congr hpolls k).trans (State.markEnds_poll hcounted (Nat.sub_ne_zero_of_lt hleft))

/-- Settles O34: what is issued is the engines' polls and then the sweep's, by `State.allocate_issues`; the ends of the mark
before it send no poll and leave the entries with time left. -/
theorem frameMarkPolls : Obligations.FrameMarkPolls := by
  refine ⟨fun n slots s => ?_, fun u slots => ?_⟩
  · obtain ⟨u, before, hexec, hbefore, hnopoll, hparams, hcursor, hrunning⟩ := exec_frame_allocates n slots s
    obtain ⟨jobs, hjobs⟩ := u.exists_jobs
    obtain ⟨hissues, -⟩ := u.allocate_issues (min slots.toNat 4) hjobs
    have hslots := u.length_slots_le (min slots.toNat 4)
    obtain ⟨v, hv⟩ : ∃ v, v = u.allocate (min slots.toNat 4) := ⟨_, rfl⟩
    rw [← hv] at hexec hissues
    refine ⟨u, _, before, pollMessages 0 (u.tagged (u.slotAsks jobs _)), hexec, hissues.sends.trans (by rw [hbefore]), ?_,
      fun m hm k t i p hpoll => ?_, fun i hi => ?_, fun k p hp hleft => ?_, hbefore, hparams, hcursor, by rw [hv]⟩
    · rw [hissues.length_messages, State.length_slotAsks, ← hparams]
      exact hslots.trans (Nat.min_le_left ..)
    · have hfalse := hnopoll m hm
      rw [hpoll] at hfalse
      cases hfalse
    · obtain ⟨k, t, p, o, hmessage, hentry⟩ := hissues.message hi
      exact ⟨k, t, p, o, by rw [hmessage, Nat.zero_add], hentry⟩
    · have hentry := hrunning k p hp hleft
      have htaken : k ∉ u.freeTags := fun hk => by rw [(u.mem_freeTags k).mp hk] at hentry; cases hentry
      exact (hissues.others k (mt List.mem_of_mem_take htaken)).trans hentry
  · obtain ⟨jobs, hjobs⟩ := u.exists_jobs
    obtain ⟨hissues, hcursor, hheld, hothers⟩ := u.allocate_issues slots hjobs
    have hlength := u.length_slotAsks jobs slots
    refine ⟨_, u.pollOrder, u.polledEngines slots, u.candidates, u.sweptTerms slots, u.freeTags, u.usableSlots slots,
      pollMessages 0 (u.tagged (u.slotAsks jobs slots)), rfl, u.pollOrder_nodup, u.mem_pollOrder, ?_, rfl,
      u.usableSlots_eq slots, rfl, u.candidates_eq, ?_, hissues.length_messages.trans hlength, ?_, ?_, ?_, hothers,
      hlength ▸ hissues.others⟩
    · refine u.pollOrder_pairwise.imp fun hab j j' hj hj' => ?_
      rwa [State.jobClass_eq hj, State.jobClass_eq hj'] at hab
    · simp only [State.sweptTerms, State.sweepRuns_iff]
    · have hslots := u.allocate_slotsOnly slots
      unfold State.SlotsOnly at hslots
      rwa [hissues.sends, hcursor] at hslots
    · rintro i e j k p he hj hk rfl
      obtain rfl := hjobs e j hj
      obtain ⟨hmessage, hentry⟩ := hissues.poll_at hk (State.slotAsks_engine jobs he)
      rw [Nat.zero_add] at hmessage
      exact ⟨hmessage, hentry, hheld i e k he hk⟩
    · rintro i t k p ht hk hp
      obtain ⟨hmessage, hentry⟩ := hissues.poll_at hk (State.slotAsks_sweep jobs ht)
      rw [Nat.zero_add] at hmessage
      rw [hp, ← State.sweepPower_eq]
      exact ⟨hmessage, hentry⟩

end Sys2Proof.Machine
end

section
/-! The sector is in CLEAR exactly when no terminal waits (R134, R135): every operation keeps it. A join leaves CLEAR, a
terminal that leaves the waiting states has the mode checked in the same event, and what else is written moves no terminal
into or out of the waiting states. -/

namespace Sys2Proof.Machine

/-! ### Who waits -/

theorem State.someWaiting_congr {s v : State} (h : ∀ u, (v.term u).state.waiting = (s.term u).state.waiting) :
    v.someWaiting = s.someWaiting := by
  simp only [State.someWaiting, h]

theorem State.someWaiting_false_iff (s : State) :
    s.someWaiting = false ↔ ∀ u, (s.term u).state.waiting = false := by
  simp [State.someWaiting, allTerms]

/-- A transition between two waiting states, or between two others, does not change whether the terminal waits. -/
theorem TermRec.transit_waiting (r : TermRec) {a b : TermState} (hab : b.waiting = a.waiting) :
    (r.transit a b).state.waiting = r.state.waiting := by
  unfold TermRec.transit
  split
  · next h => exact hab.trans (congrArg TermState.waiting h.symm)
  · rfl

theorem State.transition_waiting (s : State) (t u : TermId) {a b : TermState} (hab : b.waiting = a.waiting) :
    ((s.transition t a b).term u).state.waiting = (s.term u).state.waiting := by
  rw [State.transition_term_eq]
  split
  · exact TermRec.transit_waiting _ hab
  · rfl

theorem State.transition_mode (s : State) (t : TermId) (a b : TermState) : (s.transition t a b).mode = s.mode :=
  arbKept_mode (s.transition_arbKept t a b)

/-- The evaluation moves terminals among QUEUED, ACTIVE and SUSPENDED, which all wait (R82, R83, R86). -/
theorem State.evaluate_waiting (s : State) : ∀ u, (s.evaluate.term u).state.waiting = (s.term u).state.waiting := by
  refine State.evaluate_ind (R := fun s v => ∀ u, (v.term u).state.waiting = (s.term u).state.waiting) (fun _ _ => rfl)
    (fun hab hbc u => (hbc u).trans (hab u)) (fun s e t _ _ u => ?_) (fun s e c below _ _ u => ?_)
    (fun s e j _ _ u => ?_) s
  · rw [State.grant_term]
    split
    · next hu => exact hu ▸ (s.term t).transit_waiting (a := .queued) (b := .active) rfl
    · rfl
  · rw [State.resume_term]
    split
    · exact TermRec.transit_waiting _ rfl
    · rfl
  · exact (s.setStack (j.context :: s.stack)).transition_waiting j.term u (a := .active) (b := .suspended) rfl

theorem Work.close_waiting (w : Work) (u : TermId) :
    (w.close.term u).state.waiting = (w.st.term u).state.waiting := by
  unfold Work.close
  split
  · exact w.st.evaluate_waiting u
  · rfl

/-- At outage entry the terminals of the engines and of the stack go back to the queue, and still wait (R139, R140). -/
theorem State.enterOutage_waiting (s : State) (u : TermId) :
    (s.enterOutage.term u).state.waiting = (s.term u).state.waiting := by
  have hjob : (if ∃ e, s.worker e = some u then (s.term u).transit .active .queued else s.term u).state.waiting =
      (s.term u).state.waiting := by
    split
    · exact TermRec.transit_waiting _ rfl
    · rfl
  have hall : (s.abandonAll.term u).state.waiting = (s.term u).state.waiting := by
    rw [State.abandonAll_term]
    split
    · exact (TermRec.transit_waiting _ (a := .suspended) (b := .queued) rfl).trans hjob
    · exact hjob
  rw [State.enterOutage_term]
  split <;> exact hall

namespace ModeLaw

variable {s v : State} {t : TermId} {r : TermRec} {e : EngineId} {j : Job}

/-! ### What keeps the law -/

/-- The law reads the mode, and which terminals wait. -/
theorem congr (h : ModeLaw s) (hm : v.mode = s.mode)
    (hw : ∀ u, (v.term u).state.waiting = (s.term u).state.waiting) : ModeLaw v := by
  rw [ModeLaw, hm, State.someWaiting_congr hw]
  exact h

theorem rest (h : ModeLaw s) (hv : v.mode = s.mode ∧ v.terms = s.terms) : ModeLaw v :=
  h.congr hv.left fun u => by rw [State.term_congr hv.right]

/-- Outside CLEAR some terminal waits. -/
theorem waits (h : ModeLaw s) (hm : s.mode ≠ .clear) : s.someWaiting = true := by
  rw [← Bool.not_eq_false]
  exact mt h.mpr hm

theorem of_waits (hm : s.mode ≠ .clear) (hw : s.someWaiting = true) : ModeLaw s := by
  rw [ModeLaw, hw]
  exact iff_of_false hm nofun

/-- A record written of a terminal that waits as before. -/
theorem write (h : ModeLaw s) (hr : r.state.waiting = (s.term t).state.waiting) : ModeLaw (s.setTerm t r) :=
  h.congr rfl fun u => by
    rw [State.setTerm_term]
    split
    · next hu => exact hu ▸ hr
    · rfl

theorem send {m : OutMsg} (h : ModeLaw s) : ModeLaw (s.send m) := h.rest ⟨rfl, rfl⟩

theorem idle (h : ModeLaw s) : ModeLaw (s.setJob e none) := h.rest ⟨rfl, rfl⟩

theorem transition {a b : TermState} (h : ModeLaw s) (hab : b.waiting = a.waiting) :
    ModeLaw (s.transition t a b) :=
  h.congr (s.transition_mode t a b) fun u => s.transition_waiting t u hab

theorem trigger (h : ModeLaw s) : ModeLaw (Work.trigger s).st := h

/-- A waiting terminal in the queue: the sector is not in CLEAR after its join, whatever it was before (R134). -/
theorem join (ht : (s.term t).state.waiting = true) : ModeLaw (s.join t) := by
  obtain ⟨-, hterms, -, -, -, -, -, -, -, hmode, -⟩ := s.join_fields t
  refine of_waits ?_ ((State.someWaiting_iff _).mpr ⟨t, by rw [State.term_congr hterms]; exact ht⟩)
  rw [hmode]
  split
  · decide
  · assumption

theorem rejoin (hr : r.state = .queued) : ModeLaw (s.rejoin t r) :=
  join (by rw [State.mark_term, State.setTerm_term_self, hr]; rfl)

/-- A terminal out of its state `a` into the queue, with any record that is QUEUED. -/
theorem release {a : TermState} (hst : (s.term t).state = a)
    (hr : r.state = ((s.transition t a .queued).term t).state) :
    ModeLaw (((s.transition t a .queued).setTerm t r).join t) := by
  rw [State.join_setTerm_transition _ _ _ _ hst]
  refine rejoin (hr.trans ?_)
  rw [State.transition_term_eq, if_pos rfl, TermRec.transit, if_pos hst]

/-- The check for CLEAR (R135), once terminals have left the waiting states and none has entered them. -/
theorem checkClear {w : Work} (h : ModeLaw s) (hm : w.st.mode = s.mode)
    (hw : ∀ u, (w.st.term u).state.waiting = true → (s.term u).state.waiting = true) : ModeLaw w.checkClear.st := by
  unfold Work.checkClear
  split
  · next hsome =>
    obtain ⟨u, hu⟩ := (State.someWaiting_iff _).mp hsome
    refine of_waits (fun hclear => ?_) hsome
    have hnone := (State.someWaiting_false_iff s).mp (h.mp (hm ▸ hclear)) u
    exact Bool.noConfusion (hnone.symm.trans (hw u hu))
  · next hnone =>
    dsimp only
    rw [State.setMode_eq]
    exact iff_of_true rfl (Bool.eq_false_iff.mpr hnone)

theorem close {w : Work} (h : ModeLaw w.st) : ModeLaw w.close := by
  obtain ⟨-, -, -, hmode, -⟩ := w.close_fields
  exact h.congr hmode w.close_waiting

/-- An event that brings a terminal to the queue. -/
theorem rejoined (hr : r.state = .queued) : ModeLaw (Work.trigger (s.rejoin t r)).close :=
  (rejoin hr).trigger.close

/-! ### Power commands -/

theorem complete (h : ModeLaw s) : ModeLaw (s.complete t) := h.write (by rw [TermRec.completed_state])

/-- A command issued for terminal `t`, sent and noted (R56). -/
theorem command {m : OutMsg} {f : FrameNo} (h : ModeLaw s) (hr : r.state.waiting = (s.term t).state.waiting) :
    ModeLaw (((s.setTerm t r).send m).noteCommand t f) :=
  (h.write hr).send.congr (arbKept_mode (State.noteCommand_arbKept ..)) fun u => by rw [State.noteCommand_term]

theorem requestPower {p : Nat} (h : ModeLaw s) : ModeLaw (s.requestPower t p) := by
  have hc : ModeLaw (s.complete t) := h.complete
  unfold State.requestPower
  dsimp only
  split
  · exact hc
  · split
    · exact hc
    · exact hc.command rfl

theorem clampPower (h : ModeLaw s) : ModeLaw (s.clampPower t) := h.complete.command rfl

theorem writeProfiles {up down : Nat} (h : ModeLaw s) : ModeLaw (s.writeProfiles t up down) :=
  (h.write (t := t) (r := { s.term t with up := up, down := down }) rfl).congr
    (arbKept_mode (s.writeProfiles_arbKept t up down)) fun u => by rw [State.writeProfiles_term, State.setTerm_term]

theorem admitTerm {p : Nat} (h : ModeLaw s) : ModeLaw (s.admitTerm t p) := by
  have hissued : ModeLaw ((s.complete t).setTerm t (((s.complete t).term t).superseded
      (((s.complete t).term t).issueValue p) (s.complete t).effectFrame)) := h.complete.write rfl
  exact hissued.writeProfiles.send

/-! ### Loss -/

/-- An outage is entered from DEGRADED, where some terminal waits (R138 to R140). -/
theorem offerLoss (h : ModeLaw s) : ModeLaw s.offerLoss := by
  unfold State.offerLoss
  split
  · exact h
  · dsimp only
    split
    · next hquorum =>
      obtain ⟨hdegraded, -⟩ := hquorum
      have hwaits : s.someWaiting = true := h.waits (by rw [show s.mode = .degraded from hdegraded]; decide)
      refine of_waits ?_ ((State.someWaiting_congr (State.enterOutage_waiting _)).trans hwaits)
      rw [(State.enterOutage_frame _).1]
      decide
    · exact h.rest ⟨rfl, rfl⟩

/-- The loss of a SERVING terminal brings it to the queue (R67), so that the law holds whatever held before. -/
theorem lose {reason : LossReason} (hst : (s.term t).state = .serving) : ModeLaw (s.lose t reason) := by
  rw [State.lose_eq _ _ _ hst]
  dsimp only
  split
  · exact rejoin rfl
  · exact (rejoin rfl).offerLoss

/-! ### The engines -/

/-- An exhausted terminal waits on, in BACKOFF or HELD (R101, R102). -/
theorem exhaust (h : ModeLaw s) : ModeLaw (s.exhaust e j) := by
  unfold State.exhaust
  dsimp only
  generalize hx : (if j.phase.admitted = true then _ else _) = x
  have hx : ModeLaw x := by
    rw [← hx]
    split
    · exact (h.write (by rfl)).send
    · exact h.write rfl
  split
  · exact ((hx.transition (by rfl)).write (by rfl)).idle
  · exact (hx.transition (by rfl)).idle

theorem returnToFine {power : Nat} (h : ModeLaw s) : ModeLaw (s.returnToFine e j power).st := by
  unfold State.returnToFine
  dsimp only
  split
  · exact h.exhaust.trigger
  · exact h.rest ⟨rfl, rfl⟩

theorem beginSettle {f : FrameNo} (h : ModeLaw s) : ModeLaw (s.beginSettle e j f) := by
  unfold State.beginSettle
  dsimp only
  split <;> exact h.rest ⟨rfl, rfl⟩

theorem endConfirm {p fu : Nat} (h : ModeLaw s) : ModeLaw (s.endConfirm e j p fu) := by
  have hfound : ModeLaw (s.setTerm j.term
      { s.term j.term with foundPower := some (clampNat 0 (s.term j.term).pmax p), fade := fu }) := h.write rfl
  exact hfound.admitTerm.beginSettle

theorem tickIfDue (h : ModeLaw s) : ModeLaw (s.tickIfDue e) := by
  rcases s.tickIfDue_cases e with hnone | ⟨j, rp, -, -, -, -, hdue⟩
  · rw [hnone]
    exact h
  · obtain ⟨x, j', htick, -, hx⟩ := s.rampTick_cases e j rp
    rw [hdue, htick]
    rcases hx with rfl | rfl | ⟨p, rfl⟩
    · exact h.rest ⟨rfl, rfl⟩
    · exact h.complete.rest ⟨rfl, rfl⟩
    · exact h.complete.requestPower.rest ⟨rfl, rfl⟩

theorem settleReport {b : FrameNo} {o : Option Response} (h : ModeLaw s) : ModeLaw (s.settleReport e j b o).st := by
  unfold State.settleReport
  split
  · exact h
  · split
    · exact h.rest ⟨rfl, rfl⟩
    · dsimp only
      split
      · exact h.returnToFine
      · exact h.rest ⟨rfl, rfl⟩

/-- The hand-back takes its terminal out of the waiting states, and checks for CLEAR (R53, R135). -/
theorem handBack {up down : Nat} (h : ModeLaw s) : ModeLaw (s.handBack e t up down).st := by
  have hsent : ModeLaw ((s.writeProfiles t up down).send (.profile t up down)) := h.writeProfiles.send
  unfold State.handBack
  dsimp only
  generalize hx : ((s.writeProfiles t up down).send (.profile t up down)).setTerm t _ = x
  have hx : ModeLaw x := hx ▸ hsent.write rfl
  refine hx.checkClear (w := .trigger _) (x.transition_mode t _ _) fun u hu => ?_
  have hserving : ∀ r : TermRec, (r.transit .active .serving).state.waiting = true → r.state.waiting = true := fun r hr => by
    unfold TermRec.transit at hr
    split at hr
    · exact nomatch hr
    · exact hr
  simp only [Work.trigger, State.setJob_term, State.setTerm_term, State.transition_term_eq, if_true] at hu
  split at hu
  · next hut => exact hut ▸ hserving _ hu
  · exact hu

theorem judgeVerify {g : Gate} (h : ModeLaw s) : ModeLaw (s.judgeVerify e j g).st := by
  unfold State.judgeVerify State.verifyAccepted
  split
  · have hfade : ModeLaw (s.setTerm j.term { s.term j.term with
        fade := smooth s.params.alpha (s.term j.term).fade (g.sample (s.term j.term).refLevel) }) := h.write rfl
    dsimp only
    split
    · exact hfade.exhaust.trigger
    · exact hfade.handBack
  · exact h.returnToFine

theorem verifyReport {b : FrameNo} {o : Option Response} (h : ModeLaw s) : ModeLaw (s.verifyReport e j b o).st := by
  unfold State.verifyReport
  split
  · exact h
  · split
    · exact h
    · dsimp only
      split
      · exact h.judgeVerify
      · exact h.rest ⟨rfl, rfl⟩

theorem searchAccepted {p fu : Nat} (h : ModeLaw s) : ModeLaw (s.searchAccepted e j p fu) := by
  unfold State.searchAccepted
  dsimp only
  generalize (if j.phase = .confirm then j.confirmLeft - 1 else s.params.confirmCount - 1) = left
  split
  · exact h.endConfirm
  · exact h.rest ⟨rfl, rfl⟩

theorem searchMissed {g : Gate} {o : Verdict} (h : ModeLaw s) : ModeLaw (s.searchMissed e j g o).st := by
  unfold State.searchMissed
  dsimp only
  split
  · exact h.exhaust.trigger
  · exact h.rest ⟨rfl, rfl⟩

theorem judgeSearch {g : Gate} (h : ModeLaw s) : ModeLaw (s.judgeSearch e j g).st := by
  unfold State.judgeSearch
  split
  · exact h.searchAccepted
  · exact h.searchMissed

theorem handOutcome {o : Option Response} (h : ModeLaw s) : ModeLaw (s.handOutcome e j o).st := by
  unfold State.handOutcome
  dsimp only
  split
  · exact h.rest ⟨rfl, rfl⟩
  · split
    · split
      · exact h.judgeSearch
      · exact h.rest ⟨rfl, rfl⟩
    · exact h.rest ⟨rfl, rfl⟩

/-! ### Traffic -/

theorem trackPower {target : Nat} (h : ModeLaw s) : ModeLaw (s.trackPower t target) := by
  unfold State.trackPower
  dsimp only
  split
  · exact h
  · split <;> exact h.requestPower

theorem takePair {up down : Nat} {upgraded : Bool} (h : ModeLaw s) : ModeLaw (s.takePair t up down upgraded) := by
  have hload : ModeLaw (if upgraded then s.setTerm t { s.term t with holdOff := s.params.holdOffLoad } else s) := by
    split
    · exact h.write rfl
    · exact h
  unfold State.takePair
  dsimp only
  split
  · exact hload
  · exact hload.writeProfiles.send

theorem sampleBurst {b : FrameNo} {m : Response} (h : ModeLaw s) (hst : (s.term t).state = .serving) :
    ModeLaw (s.sampleBurst t b m).st := by
  have hfade : ∀ n, ModeLaw ((s.complete t).setTerm t { (s.complete t).term t with fade := n }) :=
    fun _ => h.complete.write rfl
  unfold State.sampleBurst
  dsimp only
  split
  · exact (lose (by simpa using hst)).trigger
  · exact (hfade _).takePair.trackPower

theorem missedTraffic (h : ModeLaw s) (hst : (s.term t).state = .serving) : ModeLaw (s.missedTraffic t).st := by
  unfold State.missedTraffic
  dsimp only
  split
  · exact (lose (by simpa using hst)).trigger
  · exact h.write rfl

theorem trackReport {b : FrameNo} {o : Option Response} (h : ModeLaw s) (hst : (s.term t).state = .serving) :
    ModeLaw (s.trackReport t b o).st := by
  have hcleared : ModeLaw (s.setTerm t { s.term t with missCount := 0 }) := h.write rfl
  unfold State.trackReport State.acceptedBurst
  split
  · split
    · dsimp only
      split
      · exact hcleared
      · exact hcleared.sampleBurst (by simpa using hst)
    · exact h.missedTraffic hst
  · exact h.missedTraffic hst

theorem routeReport {b : FrameNo} {o : Option Response} (h : ModeLaw s) : ModeLaw (s.routeReport t b o).st := by
  unfold State.routeReport
  split
  · next hst => exact h.trackReport hst
  · split
    · exact h
    · split
      · exact h
      · split
        · exact h.settleReport
        · exact h.verifyReport
        · exact h
  · exact h

theorem takeReport {terminal : Byte} {b : FrameNo} {o : Option Response} (h : ModeLaw s) :
    ModeLaw (s.takeReport terminal b o) := by
  unfold State.takeReport
  split
  · exact h
  · split
    · exact h
    · exact h.routeReport.close

/-! ### Polls -/

theorem hear (h : ModeLaw s) : ModeLaw (s.hear t).st := by
  unfold State.hear
  split
  · split
    · exact h
    · exact (h.write (t := t) (r := { s.term t with heard := true }) rfl).rest ⟨rfl, rfl⟩
  · next hst => exact release hst rfl
  · next hst => exact release hst rfl
  · exact h

/-- An outage ends in DEGRADED: some terminal waits in it (R142). -/
theorem endOutage (h : ModeLaw s) : ModeLaw s.endOutage.st := by
  unfold State.endOutage
  split
  · next hout =>
    have hwaits : s.someWaiting = true := h.waits (by rw [hout]; decide)
    dsimp only [Work.trigger]
    rw [State.setMode_eq]
    exact of_waits nofun hwaits
  · exact h

theorem takeOutcome {k : PollTag} {o : Option Response} (h : ModeLaw s) : ModeLaw (s.takeOutcome k o).st := by
  have hfree : ModeLaw (s.setPoll k none) := h.rest ⟨rfl, rfl⟩
  unfold State.takeOutcome State.matchOutcome
  split
  · exact h
  · split
    · unfold State.engineOutcome
      split
      · exact hfree
      · split
        · exact hfree
        · split
          · exact hfree.handOutcome
          · exact hfree
    · unfold State.sweepOutcome
      split
      · exact hfree
      · split
        · exact hfree
        · split
          · exact hfree
          · exact hfree.hear.endOutage

theorem takePollResult {tag outcome errors : Byte} {level : BitVec 16} (h : ModeLaw s) :
    ModeLaw (s.takePollResult tag outcome level errors) := by
  unfold State.takePollResult
  split
  · split
    · exact h
    · exact h.takeOutcome.close
  · exact h

/-! ### A mark -/

theorem expireBackoff (h : ModeLaw s) : ModeLaw (s.expireBackoff t).st := by
  by_cases hover : s.backoffOver t = true
  · rw [State.expireBackoff_eq hover]
    exact rejoin rfl
  · unfold State.expireBackoff
    rw [if_neg hover]
    exact h

theorem timeoutIfDue {k : PollTag} (h : ModeLaw s) : ModeLaw (s.timeoutIfDue k).st := by
  unfold State.timeoutIfDue
  split
  · exact h.takeOutcome
  · exact h

/-- Work repeated over a list. -/
theorem foldl {α : Type} {f : State → α → State} (hf : ∀ {y a}, ModeLaw y → ModeLaw (f y a)) (l : List α)
    (h : ModeLaw s) : ModeLaw (l.foldl f s) :=
  List.foldlRecOn l _ h fun _ hs _ _ => hf hs

theorem foldl_andThen {α : Type} {f : State → α → Work} (hf : ∀ {y a}, ModeLaw y → ModeLaw (f y a).st) (l : List α)
    {w : Work} (h : ModeLaw w.st) : ModeLaw (l.foldl (fun w a => w.andThen (fun s => f s a)) w).st :=
  List.foldlRecOn (motive := fun w : Work => ModeLaw w.st) l _ h fun _ hw _ _ => hf hw

theorem freeSendOrder {n m : Nat} (h : ModeLaw s) : ModeLaw (s.freeSendOrder n m) := h.rest ⟨rfl, rfl⟩

theorem markEnds (h : ModeLaw s) : ModeLaw s.markEnds.st := by
  have hexpired : ModeLaw s.expireAll.st := by
    unfold State.expireAll
    exact foldl_andThen (f := State.expireBackoff) (fun hy => hy.expireBackoff) _ (h.rest ⟨rfl, rfl⟩)
  have hticked : ModeLaw s.tickAll.st := by
    rw [State.tickAll_st]
    exact foldl (fun hy => hy.tickIfDue) allEngines hexpired
  have htimed : ModeLaw s.timeAll.st := by
    unfold State.timeAll
    exact foldl_andThen (f := State.timeoutIfDue) (fun hy => hy.timeoutIfDue) _ hticked
  rw [State.markEnds_st]
  exact htimed.freeSendOrder

theorem counted {n : FrameNo} (h : ModeLaw s) : ModeLaw (s.counted n) :=
  h.congr rfl fun u => by rw [State.counted_state]

theorem frameMark {n : FrameNo} {slots : Nat} (h : ModeLaw s) : ModeLaw (s.frameMark n slots) := by
  obtain ⟨hterm, -, -, hmode, -⟩ := s.frameMark_fields n slots
  exact h.counted.markEnds.congr hmode fun u => by rw [hterm, Work.close_waiting]

/-! ### The modem link -/

theorem takeModemFrame {f : WireFrame} (h : ModeLaw s) : ModeLaw (s.takeModemFrame f) := by
  have hhunt : ModeLaw s.mlHunt := h.rest ⟨rfl, rfl⟩
  unfold State.takeModemFrame
  split
  · exact hhunt
  · unfold State.takeModemCommand
    split
    · exact hhunt.frameMark
    · exact hhunt.takeReport
    · exact hhunt.takeReport
    · exact hhunt.takePollResult
    · exact hhunt

theorem takeModemByte {b : Byte} (h : ModeLaw s) : ModeLaw (s.takeModemByte b) := by
  unfold State.takeModemByte
  split
  · exact h.rest ⟨rfl, rfl⟩
  · split
    · exact h.takeModemFrame
    · exact h.rest ⟨rfl, rfl⟩

/-! ### The requests -/

/-- A terminal struck out by RETIRE or BAR: the mode is CLEAR exactly when no other waits (R16, R17, R135). -/
theorem withdrawn (h : ModeLaw s) (hr : r.state.waiting = false) : ModeLaw (s.withdrawn t r) := by
  rw [State.withdrawn_eq s t r hr]
  refine close ((?_ : s.modeWithout t = .clear ↔ _).trans (s.struck_someWaiting t r hr).symm)
  unfold State.modeWithout
  cases ht : (s.term t).state.waiting with
  | true =>
    have hmode : s.mode ≠ .clear := fun hclear =>
      Bool.noConfusion (ht.symm.trans ((State.someWaiting_false_iff s).mp (h.mp hclear) t))
    simp [hmode]
  | false =>
    simp only [Bool.false_eq_true, false_and, if_false]
    refine (h.trans (State.someWaiting_false_iff s)).trans ⟨fun hall u _ => hall u, fun hothers u => ?_⟩
    by_cases hu : u = t
    · exact hu ▸ ht
    · exact hothers u hu

/-- AMEND moves a terminal within its collection only (R13 to R15). -/
theorem amended {p : Provisioned} (h : ModeLaw s) : ModeLaw (s.amended t p).st := by
  have hstored : ModeLaw (s.stored t p) := (h.write (t := t) (r := (s.term t).withValues p) rfl).rest ⟨rfl, rfl⟩
  rw [State.amended_eq]
  dsimp only
  split
  · exact hstored.clampPower
  · exact hstored

theorem restoreNow (h : ModeLaw s) : ModeLaw (s.restoreNow t).st := by
  have hrequeue : ∀ {a}, (s.term t).state = a → ModeLaw (s.requeueNow t a) := fun hst => by
    rw [State.requeueNow_eq s t _ hst]
    exact rejoined rfl
  unfold State.restoreNow
  split
  · next hst => exact (lose hst).trigger.close
  · next hst => exact hrequeue hst
  · next hst => exact hrequeue hst
  · exact h
  · exact h

theorem provision {body : List Byte} (h : ModeLaw s) : ModeLaw (carryProvision body s).st := by
  refine State.onTerminal_ind h fun t => ?_
  split
  · exact h
  · next hst =>
    have hunused : (s.term t).state = .unused := by simpa using hst
    split
    · have hserving : ModeLaw (s.setTerm t (servingRec body s.params.holdOffLoad)) := h.write (by rw [hunused]; rfl)
      dsimp only [Answer.done]
      rw [State.provisionServing_eq]
      exact hserving.rest ⟨rfl, rfl⟩
    · dsimp only [Answer.done]
      rw [State.provisionRestore_eq]
      exact rejoined rfl

theorem carry {k : ReqKind} {body : List Byte} (h : ModeLaw s) : ModeLaw (Machine.carry k body s).st := by
  cases k with
  | provision => exact h.provision
  | amend => exact State.onProvisioned_ind h fun t _ => h.amended.close
  | retire => exact State.onProvisioned_ind h fun t _ => h.withdrawn rfl
  | bar =>
    refine State.onProvisioned_ind h fun t _ => ?_
    split
    · exact h
    · exact h.withdrawn (t := t) rfl
  | unbar =>
    refine State.onProvisioned_ind h fun t _ => ?_
    split
    · next hst =>
      dsimp only [Answer.done]
      rw [State.unbar_eq s t hst]
      exact rejoined rfl
    · exact h
  | restoreNow => exact State.onProvisioned_ind h fun t _ => h.restoreNow
  | readTerminal =>
    show ModeLaw (carryReadTerminal body s).st
    unfold carryReadTerminal
    dsimp only
    split
    · exact h
    · split
      · exact h
      · split <;> exact h
  | setLadder =>
    show ModeLaw (carrySetLadder body s).st
    unfold carrySetLadder
    dsimp only
    split <;> exact h.rest ⟨rfl, rfl⟩
  | release => exact close (w := .trigger _) (h.rest ⟨rfl, rfl⟩)
  | setSector | hold | readChanges => exact h.rest ⟨rfl, rfl⟩
  | status | readSector | readQueue | restart => exact h

theorem takeRequest {k : ReqKind} {tag : Byte} {body : List Byte} (h : ModeLaw s) :
    ModeLaw (s.takeRequest k tag body) := by
  refine State.enterBuffer_ind (h.rest ⟨rfl, rfl⟩) fun _ => ?_
  dsimp only
  split
  · exact h.rest ⟨rfl, rfl⟩
  · exact (carry (s := { s.cpHunt with reqBuf := _ }) (h.rest ⟨rfl, rfl⟩)).rest ⟨rfl, rfl⟩

theorem takeControlFrame {f : WireFrame} {good : Bool} (h : ModeLaw s) : ModeLaw (s.takeControlFrame f good) := by
  unfold State.takeControlFrame
  split
  · exact State.enterBuffer_ind (h.rest ⟨rfl, rfl⟩) fun _ => h.rest ⟨rfl, rfl⟩
  · split
    · exact State.enterBuffer_ind (h.rest ⟨rfl, rfl⟩) fun _ => h.rest ⟨rfl, rfl⟩
    · exact h.takeRequest

theorem takeControlByte {b : Byte} (h : ModeLaw s) : ModeLaw (s.takeControlByte b) := by
  unfold State.takeControlByte
  split
  · exact h.rest ⟨rfl, rfl⟩
  · exact h.takeControlFrame

/-! ### The step -/

theorem restarted (s : State) (c : StartCause) : ModeLaw (s.restarted c) := by
  obtain ⟨-, -, hmode, -⟩ := reset_sound
  exact rest (s := State.reset) hmode ⟨rfl, rfl⟩

/-- Every command keeps the law. -/
theorem exec {c : Instr} (h : ModeLaw s) (hv : Machine.exec c s = .next v) : ModeLaw v := by
  have hhunt : ModeLaw s.mlHunt := h.rest ⟨rfl, rfl⟩
  suffices hnext : ∀ {x : State}, ModeLaw x → Host.Outcome.next x = (Host.Outcome.next v : Result) → ModeLaw v by
    cases c with
    | powerOn => exact hnext (restarted s _) hv
    | replySent =>
      refine hnext ?_ hv
      unfold State.replyLeaves
      split
      · exact restarted s _
      · split <;> exact h.rest ⟨rfl, rfl⟩
    | restartReset =>
      refine hnext ?_ hv
      split
      · exact restarted s _
      · exact h
    | cpLengthDiscard => exact hnext h.takeControlByte hv
    | cpSyncFound bytes => exact hnext (foldl (fun hy => hy.takeControlByte) bytes h) hv
    | frameDiscardedBufferOccupied | badFrame | badKind => exact hnext h.takeControlFrame hv
    | status | setSector | readSector | setLadder | provision | amend | retire | bar | unbar | restoreNow | readTerminal
    | hold | release | readChanges | readQueue | restart => exact hnext h.takeRequest hv
    | mlLengthDiscard => exact hnext h.takeModemByte hv
    | mlSyncFound bytes => exact hnext (foldl (fun hy => hy.takeModemByte) bytes h) hv
    | mlFrameDropped => exact hnext h.takeModemFrame hv
    | frame => exact hnext hhunt.frameMark hv
    | burst | miss => exact hnext hhunt.takeReport hv
    | pollResult => exact hnext hhunt.takePollResult hv
    | cpGapDiscard | mlGapDiscard | mlCrcDiscard | modemSilent | lossWindowExpiry | outboundMessageSent =>
      refine hnext ?_ hv
      exact h.rest ⟨rfl, rfl⟩
    | commandEffective => exact hnext h.complete hv
    | ambiguityWindowClose t =>
      exact hnext (h.write (t := t) (by rw [TermRec.windowClosed_eq])) hv
    | backoffExpiry =>
      refine hnext ?_ hv
      split
      · exact h.expireBackoff.close
      · exact h
    | rampTick => exact hnext h.tickIfDue hv
    | pollTimeout =>
      refine hnext ?_ hv
      split
      · exact h.timeoutIfDue.close
      · exact h
  rintro x hx ⟨⟩
  exact hx

theorem step (h : ModeLaw s) (hv : Machine.step s = .next v) : ModeLaw v := by
  unfold Machine.step at hv
  split at hv
  · cases hv
    exact h.rest ⟨rfl, rfl⟩
  · refine exec ?_ hv
    exact h.rest ⟨rfl, rfl⟩

end ModeLaw

/-- Settles O55: joins leave CLEAR, RETIRE, BAR and the hand-back check for it, and every other write moves no terminal into
or out of the waiting states. -/
theorem stepKeepsModeLaw : Obligations.StepKeepsModeLaw := fun _ _ h hv => h.step hv

end Sys2Proof.Machine
end


section
/-! The receivers on bytes given in line order (R144, R145, R156, R157, R172): the bytes of a frame, taken from HUNT on, are that
frame with its CRC verdict, at either port. -/

namespace Sys2Proof.Machine

/-! ### Words and bytes -/

/-- A word is its high byte and its low byte (R173). -/
theorem append_halves (w : BitVec 16) : w.extractLsb' 8 8 ++ w.extractLsb' 0 8 = w := by
  rw [BitVec.extractLsb'_append_extractLsb'_eq_extractLsb' (by rfl), BitVec.extractLsb'_eq_self]

/-- A word encoded in a body is the word read at its offset (R173). -/
theorem wordAt_append_bytesOf (l : List Byte) (w : BitVec 16) : wordAt (l ++ bytesOf w) l.length = w := by
  have hhigh : byteAt (l ++ bytesOf w) l.length = w.extractLsb' 8 8 := by simp [byteAt, bytesOf]
  have hlow : byteAt (l ++ bytesOf w) (l.length + 1) = w.extractLsb' 0 8 := by simp [byteAt, bytesOf]
  rw [wordAt, hhigh, hlow, append_halves]

theorem toNat_byteOf {n : Nat} (h : n < 256) : (byteOf n).toNat = n := Nat.mod_eq_of_lt h

theorem lenValid_iff (b : Byte) : lenValid b = true ↔ 2 ≤ b.toNat ∧ b.toNat ≤ 252 := by
  simp [lenValid]

/-- The LEN of a body that fits is a LEN the receivers take (R144, R172). -/
theorem lenValid_byteOf {n : Nat} (h : n ≤ 250) : lenValid (byteOf (n + 2)) = true := by
  rw [lenValid_iff, toNat_byteOf (by omega)]
  omega

/-! ### A receiver -/

/-- No frame is complete before its LEN and two CRC bytes are there (R144). -/
theorem Receiver.completed_of_short {r : Receiver} (h : r.bytes.length < r.len + 2) : r.completed = none := by
  unfold Receiver.completed
  split
  · exact if_pos h
  · rfl

/-- The bytes that LEN announces and the CRC are the frame, with the verdict on its CRC (R144, R172). -/
theorem Receiver.completed_of_frame (f : WireFrame) (crc : BitVec 16) (gap : Nat) :
    Receiver.completed ⟨.body, f.body.length + 2, f.kind :: f.tag :: f.body ++ bytesOf crc, gap⟩ =
      some (f, crc16 (crcScope f) == crc) := by
  have hword : wordAt (f.kind :: f.tag :: f.body ++ bytesOf crc) (f.body.length + 2) = crc :=
    wordAt_append_bytesOf (f.kind :: f.tag :: f.body) crc
  have hfull : ¬ (f.kind :: f.tag :: f.body ++ bytesOf crc).length < f.body.length + 2 + 2 := by simp [bytesOf]
  have hbody : (f.body ++ bytesOf crc).take (f.body.length + 2 - 2) = f.body := List.take_left
  unfold Receiver.completed
  dsimp only [List.cons_append] at hword hfull ⊢
  rw [if_neg hfull, hbody, hword]

theorem Receiver.take_hunt {r : Receiver} (h : r.phase = .hunt) (b : Byte) :
    r.take b = (if b = syncByte then ⟨.length, 0, [], 0⟩ else r, none) := by
  unfold Receiver.take
  rw [h]

theorem Receiver.take_length {r : Receiver} (h : r.phase = .length) (b : Byte) :
    r.take b = (if lenValid b then ⟨.body, b.toNat, [], 0⟩ else .hunting, none) := by
  unfold Receiver.take
  rw [h]

/-- A byte that completes no frame is kept (R144). -/
theorem Receiver.take_body_short {len gap : Nat} {l : List Byte} {b : Byte} (h : l.length + 1 < len + 2) :
    Receiver.take ⟨.body, len, l, gap⟩ b = (⟨.body, len, l ++ [b], 0⟩, none) := by
  have hnone : Receiver.completed ⟨.body, len, l ++ [b], 0⟩ = none :=
    Receiver.completed_of_short (by simpa using h)
  simp only [Receiver.take, hnone]

/-- The low byte of the CRC completes the frame (R144). -/
theorem Receiver.take_last (f : WireFrame) (crc : BitVec 16) (gap : Nat) :
    Receiver.take ⟨.body, f.body.length + 2, f.kind :: f.tag :: f.body ++ [crc.extractLsb' 8 8], gap⟩
      (crc.extractLsb' 0 8) = (.hunting, some (f, crc16 (crcScope f) == crc)) := by
  have hcompleted := Receiver.completed_of_frame f crc 0
  have hbytes : f.kind :: f.tag :: f.body ++ [crc.extractLsb' 8 8] ++ [crc.extractLsb' 0 8] =
      f.kind :: f.tag :: f.body ++ bytesOf crc := List.append_assoc ..
  rw [← hbytes] at hcompleted
  simp only [Receiver.take, hcompleted]

/-- The receiver after bytes in line order, as long as they complete no frame. -/
def Receiver.feed (r : Receiver) : List Byte → Option Receiver
  | [] => some r
  | b :: l =>
    match r.take b with
    | (r', none) => r'.feed l
    | (_, some _) => none

theorem Receiver.feed_cons {r r' : Receiver} {b : Byte} (h : r.take b = (r', none)) (l : List Byte) :
    r.feed (b :: l) = r'.feed l := by
  rw [Receiver.feed, h]

/-- Bytes short of a frame's end are collected (R144). -/
theorem Receiver.feed_body {len : Nat} (l : List Byte) : ∀ pre : List Byte, pre.length + l.length < len + 2 →
    Receiver.feed ⟨.body, len, pre, 0⟩ l = some ⟨.body, len, pre ++ l, 0⟩ := by
  induction l with
  | nil => exact fun pre _ => by rw [Receiver.feed, List.append_nil]
  | cons b l ih =>
    intro pre h
    rw [List.length_cons] at h
    rw [Receiver.feed_cons (Receiver.take_body_short (by omega)), ih _ (by rw [List.length_append, List.length_singleton]; omega),
      List.append_assoc, List.singleton_append]

/-- The bytes of a frame up to the high byte of its CRC, taken in HUNT. -/
theorem Receiver.feed_frame {r : Receiver} (hr : r.phase = .hunt) (f : WireFrame) (hf : f.body.length ≤ 250) (b : Byte) :
    r.feed (syncByte :: crcScope f ++ [b]) =
      some ⟨.body, f.body.length + 2, f.kind :: f.tag :: f.body ++ [b], 0⟩ := by
  have hlen : Receiver.take ⟨.length, 0, [], 0⟩ (byteOf (f.body.length + 2)) =
      (⟨.body, f.body.length + 2, [], 0⟩, none) := by
    rw [Receiver.take_length rfl, if_pos (lenValid_byteOf hf), toNat_byteOf (by omega)]
  calc r.feed (syncByte :: crcScope f ++ [b])
      = Receiver.feed ⟨.length, 0, [], 0⟩ (crcScope f ++ [b]) :=
        Receiver.feed_cons ((Receiver.take_hunt hr _).trans (by rw [if_pos rfl])) _
    _ = Receiver.feed ⟨.body, f.body.length + 2, [], 0⟩ (f.kind :: f.tag :: f.body ++ [b]) := Receiver.feed_cons hlen _
    _ = some ⟨.body, f.body.length + 2, f.kind :: f.tag :: f.body ++ [b], 0⟩ := Receiver.feed_body _ [] (by simp)

/-- The bytes of a frame with any CRC are those up to the CRC's high byte, and its low byte (R172). -/
theorem line_append_low (f : WireFrame) (crc : BitVec 16) :
    syncByte :: crcScope f ++ bytesOf crc = syncByte :: crcScope f ++ [crc.extractLsb' 8 8] ++ [crc.extractLsb' 0 8] :=
  (List.append_assoc _ [crc.extractLsb' 8 8] [crc.extractLsb' 0 8]).symm

/-- A port's receiver fed with bytes that complete no frame: `take` is the port's way with a byte, and `put` writes the
receiver that `rx` reads. -/
theorem foldl_of_feed {take : State → Byte → State} {rx : State → Receiver} {put : State → Receiver → State}
    (htake : ∀ {s : State} {b : Byte} {r : Receiver}, (rx s).take b = (r, none) → take s b = put s r)
    (hself : ∀ s, put s (rx s) = s) (hrx : ∀ s r, rx (put s r) = r) (hput : ∀ s r r', put (put s r) r' = put s r')
    (l : List Byte) : ∀ {s : State} {r : Receiver}, (rx s).feed l = some r → l.foldl take s = put s r := by
  induction l with
  | nil =>
    rintro s _ ⟨⟩
    exact (hself s).symm
  | cons b l ih =>
    intro s r h
    unfold Receiver.feed at h
    split at h
    · next r' hb => rw [List.foldl_cons, htake hb, ih ((congrArg (Receiver.feed · l) (hrx s r')).trans h), hput]
    · cases h

/-! ### The control port -/

theorem State.takeControlByte_of_take {s : State} {b : Byte} {r : Receiver} (h : s.cpRx.take b = (r, none)) :
    s.takeControlByte b = { s with cpRx := r } := by
  unfold State.takeControlByte
  rw [h]

theorem State.foldl_takeControlByte {s : State} {r : Receiver} {l : List Byte} (h : s.cpRx.feed l = some r) :
    l.foldl State.takeControlByte s = { s with cpRx := r } :=
  foldl_of_feed (rx := State.cpRx) (put := fun s r => { s with cpRx := r }) State.takeControlByte_of_take (fun _ => rfl)
    (fun _ _ => rfl) (fun _ _ _ => rfl) l h

/-- A completed frame leaves the control port's receiver in HUNT, whatever it held (R156). -/
theorem State.takeControlFrame_cpRx (s : State) (r : Receiver) (f : WireFrame) (good : Bool) :
    ({ s with cpRx := r } : State).takeControlFrame f good = s.takeControlFrame f good := rfl

/-- The bytes of a frame, taken in HUNT at the control port, are the frame with its CRC verdict (R144, R156, R172). -/
theorem exec_cpSyncFound_frame {s : State} (hs : s.cpRx.phase = .hunt) (f : WireFrame) (hf : f.body.length ≤ 250)
    (crc : BitVec 16) :
    exec (.cpSyncFound (syncByte :: crcScope f ++ bytesOf crc)) s =
      .next (s.takeControlFrame f (crc16 (crcScope f) == crc)) := by
  refine congrArg Host.Outcome.next ?_
  rw [line_append_low, List.foldl_append, State.foldl_takeControlByte (Receiver.feed_frame hs f hf _)]
  dsimp only [List.foldl_cons, List.foldl_nil]
  unfold State.takeControlByte
  dsimp only
  rw [Receiver.take_last]
  exact s.takeControlFrame_cpRx _ f _

/-- A request's KIND names the request (R159, R174). -/
theorem reqKindOf_code (k : ReqKind) : reqKindOf k.code = some k := by cases k <;> rfl

theorem ReqKind.code_range (k : ReqKind) : 0x40 ≤ k.code.toNat ∧ k.code.toNat ≤ 0x4F := by cases k <;> decide

/-- A KIND outside 0x40..0x4F names no request (R159, R174). -/
theorem reqKindOf_eq_none {kind : Byte} (h : kind.toNat < 0x40 ∨ 0x4F < kind.toNat) : reqKindOf kind = none := by
  refine List.find?_eq_none.mpr fun k _ hk => ?_
  obtain rfl : k.code = kind := by simpa using hk
  have hrange := k.code_range
  omega

/-- Settles O9: the bytes complete one frame, and the commands named are what the port does with that frame. -/
theorem controlLineCarriesRequests : Obligations.ControlLineCarriesRequests := by
  intro s tag body hbody hhunt
  have hbytes : ∀ kind : Byte, exec (.cpSyncFound (frameBytes ⟨kind, tag, body⟩)) s =
      .next (s.takeControlFrame ⟨kind, tag, body⟩ true) := fun kind => by
    have hframe := exec_cpSyncFound_frame hhunt ⟨kind, tag, body⟩ hbody (crc16 (crcScope ⟨kind, tag, body⟩))
    rwa [beq_self_eq_true] at hframe
  refine ⟨fun k => ?_, fun kind _ => hbytes kind, fun kind crc hcrc => ?_⟩
  · rw [hbytes, exec_command]
    unfold State.takeControlFrame
    dsimp only
    rw [reqKindOf_code]
    rfl
  · have hframe := exec_cpSyncFound_frame hhunt ⟨kind, tag, body⟩ hbody crc
    rwa [beq_false_of_ne hcrc.symm] at hframe

/-! ### The modem link -/

theorem State.takeModemByte_of_take {s : State} {b : Byte} {r : Receiver} (h : s.mlRx.take b = (r, none)) :
    s.takeModemByte b = { s with mlRx := r } := by
  unfold State.takeModemByte
  rw [h]

theorem State.foldl_takeModemByte {s : State} {r : Receiver} {l : List Byte} (h : s.mlRx.feed l = some r) :
    l.foldl State.takeModemByte s = { s with mlRx := r } :=
  foldl_of_feed (rx := State.mlRx) (put := fun s r => { s with mlRx := r }) State.takeModemByte_of_take (fun _ => rfl)
    (fun _ _ => rfl) (fun _ _ _ => rfl) l h

/-- What the modem link does with a completed frame, by its CRC verdict (R145, R146). -/
def State.takeModemVerdict (s : State) (f : WireFrame) (good : Bool) : State := if good then s.takeModemFrame f else s.mlHunt

/-- A completed frame leaves the modem link's receiver in HUNT, whatever it held (R145, R146). -/
theorem State.takeModemVerdict_mlRx (s : State) (r : Receiver) (f : WireFrame) (good : Bool) :
    ({ s with mlRx := r } : State).takeModemVerdict f good = s.takeModemVerdict f good := rfl

/-- The bytes of a frame, taken in HUNT at the modem link, are the frame with its CRC verdict (R144, R145, R172). -/
theorem exec_mlSyncFound_frame {s : State} (hs : s.mlRx.phase = .hunt) (f : WireFrame) (hf : f.body.length ≤ 250)
    (crc : BitVec 16) :
    exec (.mlSyncFound (syncByte :: crcScope f ++ bytesOf crc)) s =
      .next (s.takeModemVerdict f (crc16 (crcScope f) == crc)) := by
  refine congrArg Host.Outcome.next ?_
  rw [line_append_low, List.foldl_append, State.foldl_takeModemByte (Receiver.feed_frame hs f hf _)]
  dsimp only [List.foldl_cons, List.foldl_nil]
  unfold State.takeModemByte
  dsimp only
  rw [Receiver.take_last]
  exact s.takeModemVerdict_mlRx _ f _

/-- The bytes of a frame that stands for a command of the modem link are that command (R146). -/
theorem exec_mlSyncFound_command {s : State} {f : WireFrame} {c : Instr} (hs : s.mlRx.phase = .hunt)
    (hf : f.body.length ≤ 250) (hc : modemCommand f = some c) :
    exec (.mlSyncFound (frameBytes f)) s = .next (s.mlHunt.takeModemCommand c) := by
  have hframe := exec_mlSyncFound_frame hs f hf (crc16 (crcScope f))
  rw [beq_self_eq_true] at hframe
  refine hframe.trans (congrArg Host.Outcome.next ?_)
  unfold State.takeModemVerdict State.takeModemFrame
  rw [if_pos rfl, hc]

theorem modemCommand_frame (n : FrameNo) (slots tag : Byte) :
    modemCommand ⟨0x10, tag, bytesOf n ++ [slots]⟩ = some (.frame n slots) :=
  congrArg (fun w => some (Instr.frame w slots)) (append_halves n)

theorem modemCommand_burst (terminal errors tag : Byte) (b : FrameNo) (level : BitVec 16) :
    modemCommand ⟨0x11, tag, [terminal] ++ bytesOf b ++ bytesOf level ++ [errors]⟩ =
      some (.burst terminal b level errors) :=
  congrArg₂ (fun w v => some (Instr.burst terminal w v errors)) (append_halves b) (append_halves level)

theorem modemCommand_miss (terminal tag : Byte) (b : FrameNo) :
    modemCommand ⟨0x12, tag, [terminal] ++ bytesOf b⟩ = some (.miss terminal b) :=
  congrArg (fun w => some (Instr.miss terminal w)) (append_halves b)

theorem modemCommand_pollResult (tag outcome errors : Byte) (level : BitVec 16) :
    modemCommand ⟨0x13, tag, [outcome] ++ bytesOf level ++ [errors]⟩ = some (.pollResult tag outcome level errors) :=
  congrArg (fun w => some (Instr.pollResult tag outcome w errors)) (append_halves level)

/-- Settles O10: the bytes complete one frame, and the frame of each message stands for the message with its fields. -/
theorem modemLineCarriesMessages : Obligations.ModemLineCarriesMessages := by
  intro s hhunt
  refine ⟨fun n slots tag => ?_, fun terminal errors tag b level => ?_, fun terminal tag b => ?_,
    fun tag outcome errors level => ?_, fun f crc hf hcrc => ?_⟩
  · exact exec_mlSyncFound_command hhunt (by simp [bytesOf]) (modemCommand_frame n slots tag)
  · exact exec_mlSyncFound_command hhunt (by simp [bytesOf]) (modemCommand_burst terminal errors tag b level)
  · exact exec_mlSyncFound_command hhunt (by simp [bytesOf]) (modemCommand_miss terminal tag b)
  · exact exec_mlSyncFound_command hhunt (by simp [bytesOf]) (modemCommand_pollResult tag outcome errors level)
  · have hframe := exec_mlSyncFound_frame hhunt f hf crc
    rwa [beq_false_of_ne hcrc.symm] at hframe

/-! ### Discards, the SYNC byte and dropped frames -/

/-- A frame whose KIND or body length is that of no inbound message stands for no command (R146). -/
theorem modemCommand_eq_none {f : WireFrame} (h : modemBodyLen f.kind ≠ some f.body.length) : modemCommand f = none := by
  unfold modemCommand modemFrameKnown
  rw [beq_false_of_ne h]
  rfl

/-- The body lengths of R175, kind by kind. -/
theorem modemBodyLen_eq_some {kind : Byte} {n : Nat} (h : modemBodyLen kind = some n) :
    (kind = 0x10 ∧ n = 3) ∨ (kind = 0x11 ∧ n = 6) ∨ (kind = 0x12 ∧ n = 3) ∨ (kind = 0x13 ∧ n = 4) := by
  unfold modemBodyLen at h
  split at h
  · next hk => exact .inl ⟨hk, by simpa using h.symm⟩
  · split at h
    · next hk => exact .inr (.inl ⟨hk, by simpa using h.symm⟩)
    · split at h
      · next hk => exact .inr (.inr (.inl ⟨hk, by simpa using h.symm⟩))
      · split at h
        · next hk => exact .inr (.inr (.inr ⟨hk, by simpa using h.symm⟩))
        · cases h

/-- A LEN outside 2..252 discards the frame in assembly (R145, R157). -/
theorem Receiver.take_length_discard {r : Receiver} {b : Byte} (hr : r.phase = .length) (hb : b.toNat < 2 ∨ 252 < b.toNat) :
    r.take b = (.hunting, none) := by
  have hinvalid : ¬ lenValid b = true := by
    rw [lenValid_iff]
    omega
  rw [Receiver.take_length hr, if_neg hinvalid]

/-- Settles O7: each event is one byte at a receiver, a return to HUNT, or a frame that stands for no command. -/
theorem receiverEvents : Obligations.ReceiverEvents := by
  intro s
  refine ⟨fun b hb => ⟨fun hr => ?_, fun hr => ?_⟩, rfl, rfl, rfl, fun kind tag body h1 h2 h3 h4 => ?_,
    fun b => ⟨fun hr => ?_, fun hr => ?_⟩⟩
  · exact congrArg Host.Outcome.next (State.takeControlByte_of_take (Receiver.take_length_discard hr hb))
  · exact congrArg Host.Outcome.next (State.takeModemByte_of_take (Receiver.take_length_discard hr hb))
  · have hnone : modemCommand ⟨kind, tag, body⟩ = none := modemCommand_eq_none fun hlen => by
      rcases modemBodyLen_eq_some hlen with h | h | h | h
      · exact h1 h
      · exact h2 h
      · exact h3 h
      · exact h4 h
    refine congrArg Host.Outcome.next ?_
    unfold State.takeModemFrame
    rw [hnone]
    rfl
  · exact congrArg Host.Outcome.next (State.takeControlByte_of_take (Receiver.take_hunt hr b))
  · exact congrArg Host.Outcome.next (State.takeModemByte_of_take (Receiver.take_hunt hr b))

end Sys2Proof.Machine
end

section
/-! The step: the command at the front of the queue, or one millisecond of the part's own clock (R145, R146, R150, R157). -/

namespace Sys2Proof.Machine

/-- Settles O1: the queue is read first. -/
theorem stepRunsFrontCommand : Obligations.StepRunsFrontCommand := by
  intro c rest s hs
  unfold step
  rw [hs]

/-- A millisecond on a gap timer, which runs in LENGTH and BODY and discards the frame above 5 ms (R145, R157). -/
theorem Receiver.tick_eq (r : Receiver) :
    r.tick = if r.phase = .hunt then r else if 5 ≤ r.gapMs then ⟨.hunt, 0, [], 0⟩ else { r with gapMs := r.gapMs + 1 } := by
  simp only [Receiver.tick, Nat.lt_succ_iff, Receiver.hunting]

/-- Settles O2: the millisecond advances the two gap timers and the silence time. -/
theorem idleStepIsAMillisecond : Obligations.IdleStepIsAMillisecond := by
  intro s hs
  have hsilence : decide (16 ≤ s.silenceMs + 1) = decide (15 ≤ s.silenceMs) := decide_eq_decide.mpr Nat.succ_le_succ_iff
  have hstep : step s = .next s.tick := by
    unfold step
    rw [hs]
  rw [hstep, State.tick, Receiver.tick_eq, Receiver.tick_eq, hsilence]

end Sys2Proof.Machine
end


section
/-! The outbound list grows at its end (R153): every operation leaves the messages that wait in front, in their order, and puts
its own after them. What drops messages is a reset, or the message sent. -/

namespace Sys2Proof.Machine

/-- The messages that wait in `s` stand in front of those that wait in `v`. -/
def State.Grows (s v : State) : Prop := s.outbox <+: v.outbox

namespace State.Grows

variable {s x v : State} {t : TermId} {e : EngineId} {j : Job}

theorem refl : Grows s s := List.prefix_rfl

theorem trans (h : Grows s x) (h' : Grows x v) : Grows s v := List.IsPrefix.trans h h'

theorem sends {sent : List OutMsg} (h : Grows s x) (hv : v.outbox = x.outbox ++ sent) : Grows s v :=
  h.trans ⟨sent, hv.symm⟩

/-- Nothing is sent. -/
theorem same (h : Grows s x) (hv : v.outbox = x.outbox) : Grows s v := h.sends (hv.trans (List.append_nil _).symm)

theorem setTerm {r : TermRec} (h : Grows s x) : Grows s (x.setTerm t r) := h.same rfl

theorem setJob {i : Option Job} (h : Grows s x) : Grows s (x.setJob e i) := h.same rfl

theorem trigger (h : Grows s x) : Grows s (Work.trigger x).st := h

theorem send {m : OutMsg} (h : Grows s x) : Grows s (x.send m) := h.sends rfl

theorem arb (h : Grows s x) (hv : v.arbKept = x.arbKept) : Grows s v := h.same (arbKept_outbox hv)

theorem transition {a b : TermState} (h : Grows s x) : Grows s (x.transition t a b) := h.arb (x.transition_arbKept t a b)

theorem writeProfiles {up down : Nat} (h : Grows s x) : Grows s (x.writeProfiles t up down) :=
  h.arb (x.writeProfiles_arbKept t up down)

theorem setMode {m : Mode} (h : Grows s x) : Grows s (x.setMode m) := h.same (by rw [State.setMode_eq])

theorem join (h : Grows s x) : Grows s (x.join t) := by
  obtain ⟨-, -, -, -, -, -, hout, -⟩ := x.join_fields t
  exact h.same hout

theorem close {w : Work} (h : Grows s w.st) : Grows s w.close := by
  obtain ⟨-, hout, -⟩ := w.close_fields
  exact h.same hout

theorem checkClear {w : Work} (h : Grows s w.st) : Grows s w.checkClear.st := by
  unfold Work.checkClear
  split
  · exact h
  · exact h.setMode

/-! ### Power commands -/

theorem requestPower {p : Nat} (h : Grows s x) : Grows s (x.requestPower t p) := by
  obtain ⟨sent, hout, -⟩ := x.requestPower_sends t p
  exact h.sends hout

theorem clampPower (h : Grows s x) : Grows s (x.clampPower t) := by
  obtain ⟨-, -, hout, -⟩ := x.clampPower_spec t
  exact h.sends hout

theorem admitTerm {p : Nat} (h : Grows s x) : Grows s (x.admitTerm t p) := by
  obtain ⟨-, -, hout, -⟩ := x.admitTerm_spec t p
  exact h.sends hout

/-! ### Loss -/

theorem enterOutage (h : Grows s x) : Grows s x.enterOutage := by
  obtain ⟨-, -, -, -, -, -, -, hout⟩ := x.enterOutage_frame
  exact h.sends hout

theorem offerLoss (h : Grows s x) : Grows s x.offerLoss := by
  have hentered : ∀ l, Grows s { x with lossWindow := l } := fun _ => h.same rfl
  unfold State.offerLoss
  split
  · exact h
  · dsimp only
    split
    · exact (hentered _).enterOutage
    · exact hentered _

theorem lose {reason : LossReason} (h : Grows s x) : Grows s (x.lose t reason) := by
  unfold State.lose
  dsimp only
  split
  · exact h.setTerm.send.setTerm.transition.join
  · exact h.setTerm.send.setTerm.transition.join.offerLoss

/-! ### The engines -/

theorem exhaust (h : Grows s x) : Grows s (x.exhaust e j) := by
  unfold State.exhaust
  dsimp only
  generalize hy : (if j.phase.admitted = true then _ else _) = y
  have hy : Grows s y := by
    rw [← hy]
    split
    · exact h.setTerm.send
    · exact h.setTerm
  split
  · exact hy.transition.setTerm.setJob
  · exact hy.transition.setJob

theorem returnToFine {power : Nat} (h : Grows s x) : Grows s (x.returnToFine e j power).st := by
  unfold State.returnToFine
  dsimp only
  split
  · exact h.exhaust
  · exact h.send.setJob

theorem endConfirm {p fu : Nat} (h : Grows s x) : Grows s (x.endConfirm e j p fu) := by
  obtain ⟨r, q, j', hend⟩ := x.endConfirm_cases e j p fu
  rw [hend]
  exact h.setTerm.admitTerm.setJob

theorem settleReport {b : FrameNo} {o : Option Response} (h : Grows s x) : Grows s (x.settleReport e j b o).st := by
  unfold State.settleReport
  split
  · exact h
  · split
    · exact h.same rfl
    · dsimp only
      split
      · exact h.returnToFine
      · exact h.same rfl

theorem handBack {up down : Nat} (h : Grows s x) : Grows s (x.handBack e t up down).st := by
  exact h.writeProfiles.send.setTerm.transition.setTerm.setJob.trigger.checkClear

theorem judgeVerify {g : Gate} (h : Grows s x) : Grows s (x.judgeVerify e j g).st := by
  unfold State.judgeVerify State.verifyAccepted
  split
  · dsimp only
    split
    · exact h.setTerm.exhaust
    · exact h.setTerm.handBack
  · exact h.returnToFine

theorem verifyReport {b : FrameNo} {o : Option Response} (h : Grows s x) : Grows s (x.verifyReport e j b o).st := by
  unfold State.verifyReport
  split
  · exact h
  · split
    · exact h
    · dsimp only
      split
      · exact h.judgeVerify
      · exact h.same rfl

theorem judgeSearch {g : Gate} (h : Grows s x) : Grows s (x.judgeSearch e j g).st := by
  unfold State.judgeSearch
  split
  · rcases Nat.eq_zero_or_pos (if j.phase = .confirm then j.confirmLeft - 1 else x.params.confirmCount - 1) with hl | hl
    · rw [State.searchAccepted_ends hl]
      exact h.endConfirm
    · rw [State.searchAccepted_goes rfl hl]
      exact h.same rfl
  · unfold State.searchMissed
    dsimp only
    split
    · exact h.exhaust
    · exact h.same rfl

theorem handOutcome {o : Option Response} (h : Grows s x) : Grows s (x.handOutcome e j o).st := by
  unfold State.handOutcome
  dsimp only
  split
  · exact h.same rfl
  · split
    · split
      · exact h.judgeSearch
      · exact h.same rfl
    · exact h.same rfl

/-! ### Traffic -/

theorem trackPower {target : Nat} (h : Grows s x) : Grows s (x.trackPower t target) := by
  unfold State.trackPower
  dsimp only
  split
  · exact h
  · split <;> exact h.requestPower

theorem takePair {up down : Nat} {upgraded : Bool} (h : Grows s x) : Grows s (x.takePair t up down upgraded) := by
  have hload : Grows s (if upgraded then x.setTerm t { x.term t with holdOff := x.params.holdOffLoad } else x) := by
    split
    · exact h.same rfl
    · exact h
  unfold State.takePair
  dsimp only
  split
  · exact hload
  · exact hload.writeProfiles.send

theorem sampleBurst {b : FrameNo} {m : Response} (h : Grows s x) : Grows s (x.sampleBurst t b m).st := by
  unfold State.sampleBurst
  dsimp only
  split
  · exact h.setTerm.setTerm.lose
  · exact h.setTerm.setTerm.takePair.trackPower

theorem missedTraffic (h : Grows s x) : Grows s (x.missedTraffic t).st := by
  unfold State.missedTraffic
  dsimp only
  split
  · exact h.setTerm.lose
  · exact h.setTerm

theorem trackReport {b : FrameNo} {o : Option Response} (h : Grows s x) : Grows s (x.trackReport t b o).st := by
  unfold State.trackReport State.acceptedBurst
  split
  · split
    · dsimp only
      split
      · exact h.setTerm
      · exact h.setTerm.sampleBurst
    · exact h.missedTraffic
  · exact h.missedTraffic

theorem routeReport {b : FrameNo} {o : Option Response} (h : Grows s x) : Grows s (x.routeReport t b o).st := by
  unfold State.routeReport
  split
  · exact h.trackReport
  · split
    · exact h
    · split
      · exact h
      · split
        · exact h.settleReport
        · exact h.verifyReport
        · exact h
  · exact h

theorem takeReport {terminal : Byte} {b : FrameNo} {o : Option Response} (h : Grows s x) :
    Grows s (x.takeReport terminal b o) := by
  unfold State.takeReport
  split
  · exact h
  · split
    · exact h
    · exact h.routeReport.close

/-! ### Polls -/

theorem hear (h : Grows s x) : Grows s (x.hear t).st := by
  unfold State.hear
  split
  · split
    · exact h
    · exact h.same rfl
  · exact h.transition.setTerm.join.trigger
  · exact h.transition.setTerm.join.trigger
  · exact h

theorem endOutage (h : Grows s x) : Grows s x.endOutage.st := by
  unfold State.endOutage
  split
  · exact h.setMode
  · exact h

theorem takeOutcome {k : PollTag} {o : Option Response} (h : Grows s x) : Grows s (x.takeOutcome k o).st := by
  have hfree : Grows s (x.setPoll k none) := h.same rfl
  unfold State.takeOutcome State.matchOutcome
  split
  · exact h
  · split
    · unfold State.engineOutcome
      split
      · exact hfree
      · split
        · exact hfree
        · split
          · exact hfree.handOutcome
          · exact hfree
    · unfold State.sweepOutcome
      split
      · exact hfree
      · split
        · exact hfree
        · split
          · exact hfree
          · exact hfree.hear.endOutage

theorem takePollResult {tag outcome errors : Byte} {level : BitVec 16} (h : Grows s x) :
    Grows s (x.takePollResult tag outcome level errors) := by
  unfold State.takePollResult
  split
  · split
    · exact h
    · exact h.takeOutcome.close
  · exact h

/-! ### Marks and the ends of operations -/

theorem expireBackoff (h : Grows s x) : Grows s (x.expireBackoff t).st := h.same (x.expireBackoff_outbox t)

theorem tickIfDue (h : Grows s x) : Grows s (x.tickIfDue e) := by
  obtain ⟨sent, hout, -⟩ := x.tickIfDue_sends e
  exact h.sends hout

theorem timeoutIfDue {k : PollTag} (h : Grows s x) : Grows s (x.timeoutIfDue k).st := by
  unfold State.timeoutIfDue
  split
  · exact h.takeOutcome
  · exact h

theorem allocate {slots : Nat} (h : Grows s x) : Grows s (x.allocate slots) := by
  obtain ⟨jobs, hjobs⟩ := x.exists_jobs
  obtain ⟨hissues, -⟩ := x.allocate_issues slots hjobs
  exact h.sends hissues.sends

/-- A mark sends the messages of its ends, in whatever free order, after those that wait, and then the POLLs (R149). -/
theorem frameMark {n : FrameNo} {slots : Nat} (h : Grows s x) : Grows s (x.frameMark n slots) := by
  obtain ⟨_, _, _, -, hends, -⟩ := (x.counted n).markEnds_sends
  have hcounted : Grows s (x.counted n) := h.same rfl
  exact (hcounted.sends hends).close.allocate.same rfl

/-! ### The modem link -/

theorem takeModemFrame {f : WireFrame} (h : Grows s x) : Grows s (x.takeModemFrame f) := by
  have hhunt : Grows s x.mlHunt := h.same rfl
  unfold State.takeModemFrame
  split
  · exact hhunt
  · unfold State.takeModemCommand
    split
    · exact hhunt.frameMark
    · exact hhunt.takeReport
    · exact hhunt.takeReport
    · exact hhunt.takePollResult
    · exact hhunt

theorem takeModemByte {b : Byte} (h : Grows s x) : Grows s (x.takeModemByte b) := by
  unfold State.takeModemByte
  split
  · exact h.same rfl
  · split
    · exact h.takeModemFrame
    · exact h.same rfl

/-! ### The requests -/

/-- RETIRE and BAR send at most a WITHDRAW (R16, R17). -/
theorem withdrawn {r : TermRec} (h : Grows s x) : Grows s (x.withdrawn t r) := by
  have hstruck : Grows s (x.struck t r) := h.sends (by rw [State.struck_eq])
  unfold State.withdrawn Work.checkClearIf
  split
  · exact (checkClear (w := ⟨_, _⟩) hstruck).close
  · exact close (w := ⟨_, _⟩) hstruck

/-- AMEND sends at most the POWER of the clamp (R15). -/
theorem amended {p : Provisioned} (h : Grows s x) : Grows s (x.amended t p).st := by
  have hstored : Grows s (x.stored t p) := h.same rfl
  rw [State.amended_eq]
  dsimp only
  split
  · exact hstored.clampPower
  · exact hstored

theorem requeueNow {a : TermState} (h : Grows s x) : Grows s (x.requeueNow t a) :=
  h.setTerm.transition.join.trigger.close

theorem restoreNow (h : Grows s x) : Grows s (x.restoreNow t).st := by
  unfold State.restoreNow
  split
  · exact h.lose.trigger.close
  · exact h.requeueNow
  · exact h.requeueNow
  · exact h
  · exact h

theorem provision {body : List Byte} (h : Grows s x) : Grows s (carryProvision body x).st := by
  refine State.onTerminal_ind h fun t => ?_
  split
  · exact h
  · split
    · exact h.setTerm.transition.send
    · exact h.setTerm.transition.join.trigger.close

theorem carry {k : ReqKind} {body : List Byte} (h : Grows s x) : Grows s (Machine.carry k body x).st := by
  cases k with
  | provision => exact h.provision
  | amend => exact State.onProvisioned_ind h fun t _ => h.amended.close
  | retire => exact State.onProvisioned_ind h fun t _ => h.withdrawn
  | bar =>
    refine State.onProvisioned_ind h fun t _ => ?_
    split
    · exact h
    · exact h.withdrawn (t := t)
  | unbar =>
    refine State.onProvisioned_ind h fun t _ => ?_
    split
    · exact h.setTerm.transition.join.trigger.close
    · exact h
  | restoreNow => exact State.onProvisioned_ind h fun t _ => h.restoreNow
  | readTerminal =>
    show Grows s (carryReadTerminal body x).st
    unfold carryReadTerminal
    dsimp only
    split
    · exact h
    · split
      · exact h
      · split <;> exact h
  | setLadder =>
    show Grows s (carrySetLadder body x).st
    unfold carrySetLadder
    dsimp only
    split <;> exact h.same rfl
  | release => exact close (w := .trigger _) (h.same rfl)
  | setSector | hold | readChanges => exact h.same rfl
  | status | readSector | readQueue | restart => exact h

theorem takeRequest {k : ReqKind} {tag : Byte} {body : List Byte} (h : Grows s x) : Grows s (x.takeRequest k tag body) := by
  refine State.enterBuffer_ind (h.same rfl) fun _ => ?_
  dsimp only
  split
  · exact h.same rfl
  · exact (carry (x := { x.cpHunt with reqBuf := _ }) (h.same rfl)).same rfl

theorem takeControlFrame {f : WireFrame} {good : Bool} (h : Grows s x) : Grows s (x.takeControlFrame f good) := by
  unfold State.takeControlFrame
  split
  · exact State.enterBuffer_ind (h.same rfl) fun _ => h.same rfl
  · split
    · exact State.enterBuffer_ind (h.same rfl) fun _ => h.same rfl
    · exact h.takeRequest

theorem takeControlByte {b : Byte} (h : Grows s x) : Grows s (x.takeControlByte b) := by
  unfold State.takeControlByte
  split
  · exact h.same rfl
  · exact h.takeControlFrame

/-! ### The commands -/

/-- Bytes in line order. -/
theorem foldl {f : State → Byte → State} (hf : ∀ {y b}, Grows s y → Grows s (f y b)) (l : List Byte) (h : Grows s x) :
    Grows s (l.foldl f x) :=
  List.foldlRecOn l _ h fun _ hy _ _ => hf hy

/-- Every command but the resets and the message's own leaving lets the list grow only. -/
theorem exec {c : Instr} (hc : resets c = false) (hsent : c ≠ .outboundMessageSent) (hv : Machine.exec c s = .next v) :
    Grows s v := by
  have hhunt : Grows s s.mlHunt := same .refl rfl
  suffices hnext : ∀ {x : State}, Grows s x → Host.Outcome.next x = (Host.Outcome.next v : Result) → Grows s v by
    cases c with
    | powerOn | replySent | restartReset => exact nomatch hc
    | outboundMessageSent => exact absurd rfl hsent
    | cpLengthDiscard => exact hnext refl.takeControlByte hv
    | cpSyncFound bytes => exact hnext (foldl (fun hy => hy.takeControlByte) bytes refl) hv
    | frameDiscardedBufferOccupied | badFrame | badKind => exact hnext refl.takeControlFrame hv
    | status | setSector | readSector | setLadder | provision | amend | retire | bar | unbar | restoreNow | readTerminal
    | hold | release | readChanges | readQueue | restart => exact hnext refl.takeRequest hv
    | mlLengthDiscard => exact hnext refl.takeModemByte hv
    | mlSyncFound bytes => exact hnext (foldl (fun hy => hy.takeModemByte) bytes refl) hv
    | mlFrameDropped => exact hnext refl.takeModemFrame hv
    | frame => exact hnext hhunt.frameMark hv
    | burst | miss => exact hnext hhunt.takeReport hv
    | pollResult => exact hnext hhunt.takePollResult hv
    | cpGapDiscard | mlGapDiscard | mlCrcDiscard | modemSilent | lossWindowExpiry | commandEffective
    | ambiguityWindowClose =>
      refine hnext ?_ hv
      exact same .refl rfl
    | backoffExpiry =>
      refine hnext ?_ hv
      split
      · exact refl.expireBackoff.close
      · exact refl
    | rampTick => exact hnext refl.tickIfDue hv
    | pollTimeout =>
      refine hnext ?_ hv
      split
      · exact refl.timeoutIfDue.close
      · exact refl
  rintro x hx ⟨⟩
  exact hx

end State.Grows

/-- Settles O6: the messages that wait stand in front of those that wait after the command. -/
theorem messagesAreNotWithdrawn : Obligations.MessagesAreNotWithdrawn := by
  intro c s v hv hpower hreply hrestart hsent
  have hc : resets c = false := by
    cases c with
    | powerOn => exact absurd rfl hpower
    | replySent => exact absurd rfl hreply
    | restartReset => exact absurd rfl hrestart
    | _ => rfl
  obtain ⟨sent, hout⟩ := State.Grows.exec hc hsent hv
  exact ⟨sent, hout.symm⟩

end Sys2Proof.Machine
end

section
/-! Frames that complete on the control port, whole: those an occupied buffer discards, and those the first three checks of R159
refuse (R156, R157, R159). -/

namespace Sys2Proof.Machine

theorem State.enterBuffer_occupied {s : State} (h : s.reqBuf.isSome = true) (f : ReqFrame) (g : State → State) :
    s.enterBuffer f g = s.cpHunt := if_pos h

theorem State.enterBuffer_empty {s : State} (h : s.reqBuf = none) (f : ReqFrame) (g : State → State) :
    s.enterBuffer f g = g { s with cpRx := .hunting, reqBuf := some f } := if_neg (by simp [h])

/-- A bad CRC is BAD_FRAME, whatever the KIND (R159 step 1). -/
theorem State.takeControlFrame_bad (s : State) (f : WireFrame) : s.takeControlFrame f false = s.takeBadFrame f := rfl

/-- A KIND that names no request, with a good CRC, is BAD_KIND (R159 step 2). -/
theorem State.takeControlFrame_of_none (s : State) {f : WireFrame} (hk : reqKindOf f.kind = none) :
    s.takeControlFrame f true = s.takeBadKind f := by
  unfold State.takeControlFrame
  rw [hk]
  rfl

theorem State.takeControlFrame_of_some (s : State) {f : WireFrame} {k : ReqKind} (hk : reqKindOf f.kind = some k) :
    s.takeControlFrame f true = s.takeRequest k f.tag f.body := by
  unfold State.takeControlFrame
  rw [hk]
  rfl

/-- An occupied buffer discards the frame, whatever its CRC and its KIND (R156). -/
theorem State.takeControlFrame_occupied {s : State} (h : s.reqBuf.isSome = true) (f : WireFrame) (good : Bool) :
    s.takeControlFrame f good = s.cpHunt := by
  cases good with
  | false => exact (s.takeControlFrame_bad f).trans (State.enterBuffer_occupied h ..)
  | true =>
    cases hk : reqKindOf f.kind with
    | none => exact (s.takeControlFrame_of_none hk).trans (State.enterBuffer_occupied h ..)
    | some k => exact (s.takeControlFrame_of_some hk).trans (s.takeRequest_occupied k f.tag f.body h)

theorem State.takeControlFrame_badFrame {s : State} (h : s.reqBuf = none) (f : WireFrame) :
    s.takeControlFrame f false =
      { s with cpRx := .hunting, reqBuf := some ⟨f, false⟩, reply := some ⟨0, 0, .badFrame, []⟩ } :=
  (s.takeControlFrame_bad f).trans (State.enterBuffer_empty h ..)

theorem State.takeControlFrame_badKind {s : State} (h : s.reqBuf = none) {f : WireFrame} (hk : reqKindOf f.kind = none) :
    s.takeControlFrame f true =
      { s with cpRx := .hunting, reqBuf := some ⟨f, true⟩, reply := some ⟨f.tag, f.kind, .badKind, []⟩ } :=
  (s.takeControlFrame_of_none hk).trans (State.enterBuffer_empty h ..)

theorem State.takeRequest_badLength {s : State} (h : s.reqBuf = none) {k : ReqKind} (tag : Byte) {body : List Byte}
    (hl : body.length ≠ k.bodyLen) : s.takeRequest k tag body = s.replied k tag body .badLength [] :=
  (State.enterBuffer_empty h ..).trans (if_pos hl)

/-- Settles O8: the occupied buffer, then each of the three checks in an empty one. -/
theorem framesRefused : Obligations.FramesRefused := by
  refine ⟨fun s kind tag body good k h => ?_, fun s kind tag body k h => ⟨?_, fun hk => ?_, fun hl => ?_⟩⟩
  · have hdiscard : ∀ good, (Host.Outcome.next (s.takeControlFrame ⟨kind, tag, body⟩ good) : Result) = .next s.cpHunt :=
      fun good => congrArg _ (State.takeControlFrame_occupied h _ good)
    refine ⟨hdiscard good, hdiscard false, hdiscard true, ?_⟩
    rw [exec_command, s.takeRequest_occupied k tag body h]
    rfl
  · exact congrArg Host.Outcome.next (State.takeControlFrame_badFrame h _)
  · exact congrArg Host.Outcome.next (State.takeControlFrame_badKind h (reqKindOf_eq_none hk))
  · rw [exec_command, State.takeRequest_badLength h tag hl]

end Sys2Proof.Machine
end

section
/-! The counts of STATUS: each terminal stands in one state, and a collection of R6 lists the terminals of its state once
(R6, R160). -/

namespace Sys2Proof.Machine

/-- Whatever terminals are counted, each one is counted in exactly one of the eight states. -/
theorem State.sum_countP (s : State) (l : List TermId) :
    (allStates.map (fun st => l.countP (fun t => (s.term t).state = st))).sum = l.length := by
  induction l with
  | nil => rfl
  | cons t l ih =>
    have hone : ∀ a : TermState, (allStates.map (fun st => if a = st then 1 else 0)).sum = 1 := by
      intro a; cases a <;> rfl
    simp only [List.countP_cons, decide_eq_true_eq, List.sum_map_add, ih, hone, List.length_cons]

theorem State.sum_countOf (s : State) : (allStates.map s.countOf).sum = 64 :=
  (s.sum_countP allTerms).trans List.length_finRange

/-- A full roster of a state lists as many terminals as are counted in that state. -/
theorem Roster.countOf_eq {s : State} {l : List TermId} {a : TermState} (h : Roster True l s a) :
    s.countOf a = l.length := by
  obtain ⟨hnodup, hmem, hall⟩ := h
  have hperm : (allTerms.filter (fun t => (s.term t).state = a)).Perm l := by
    refine (List.perm_ext_iff_of_nodup ((List.nodup_finRange 64).filter _) hnodup).mpr fun t => ?_
    rw [List.mem_filter, decide_eq_true_eq]
    exact ⟨fun ⟨_, ht⟩ => hall trivial t ht, fun ht => ⟨List.mem_finRange t, hmem t ht⟩⟩
  rw [State.countOf, List.countP_eq_length_filter, hperm.length_eq]

theorem State.length_workers (s : State) :
    s.workers.length = (allEngines.filter (fun e => (s.job e).isSome)).length := by
  rw [State.workers, List.length_filterMap_eq_countP, List.countP_eq_length_filter]
  simp only [State.worker, Option.isSome_map]

/-- Settles O13: the counts of the states that have a collection are the lengths of the three rosters of R6. -/
theorem statusCounts : Obligations.StatusCounts := by
  intro s hs
  have hplaced := (collectionsLaw_iff s).mp hs
  exact ⟨s.sum_countOf, hplaced.queue.countOf_eq, hplaced.onStack.countOf_eq.trans (List.length_map _),
    hplaced.workers.countOf_eq.trans s.length_workers⟩

end Sys2Proof.Machine
end

section
/-! READ CHANGES: the marks it leaves are those of the terminals it did not report, so reading again goes on where the last
reply ended (R166, R167). -/

namespace Sys2Proof.Machine

/-! ### What a READ CHANGES leaves -/

/-- The entries of a list without repetition that are not among its first `n` are those after the first `n`. -/
theorem filter_not_contains_take {α : Type} [DecidableEq α] {l : List α} (h : l.Nodup) (n : Nat) :
    l.filter (fun x => !(l.take n).contains x) = l.drop n := by
  have hdisj : ∀ x ∈ l.drop n, x ∉ l.take n := fun x hd ht => List.disjoint_take_drop h le_rfl ht hd
  have hsplit := List.filter_append (p := fun x => !(l.take n).contains x) (l.take n) (l.drop n)
  rw [List.take_append_drop] at hsplit
  rw [hsplit, List.filter_eq_nil_iff.mpr (by simp), List.filter_eq_self.mpr (by simpa using hdisj), List.nil_append]

theorem State.mem_markedTerms (s : State) (t : TermId) : t ∈ s.markedTerms ↔ s.marked t = true := by
  simp [State.markedTerms, allTerms]

theorem State.nodup_markedTerms (s : State) : s.markedTerms.Nodup := (List.nodup_finRange 64).filter _

theorem State.length_markedTerms_le (s : State) : s.markedTerms.length ≤ 64 :=
  (List.length_filter_le ..).trans List.length_finRange.le

theorem State.clearReported_marked (s : State) (t : TermId) :
    s.clearReported.marked t = (s.marked t && !s.reportedTerms.contains t) := placesOf_get ..

/-- The marks that stay are those after the sixteen reported (R166, R167). -/
theorem State.clearReported_markedTerms (s : State) : s.clearReported.markedTerms = s.markedTerms.drop 16 := by
  rw [← filter_not_contains_take s.nodup_markedTerms 16]
  unfold State.markedTerms
  rw [List.filter_filter]
  refine List.filter_congr fun t _ => ?_
  rw [s.clearReported_marked, Bool.and_comm]
  rfl

/-- Marks stay exactly where more than sixteen terminals were marked: the more flag (R166). -/
theorem State.any_clearReported_marked (s : State) :
    allTerms.any (fun t => s.clearReported.marked t) = decide (16 < s.markedTerms.length) := by
  have hany : allTerms.any (fun t => s.clearReported.marked t) = true ↔ s.clearReported.markedTerms ≠ [] := by
    simp [State.markedTerms, List.filter_eq_nil_iff]
  rw [Bool.eq_iff_iff, hany, s.clearReported_markedTerms, decide_eq_true_eq, ne_eq, List.drop_eq_nil_iff, not_le]

theorem exec_readChanges {s : State} (h : s.reqBuf = none) (tag : Byte) :
    exec (.readChanges tag []) s = .next (s.clearReported.replied .readChanges tag [] .ok s.changesContents) :=
  exec_carried (k := .readChanges) h rfl rfl

/-- Settles O17: the reply is built before the marks are cleared, and the more flag says that marks stay. -/
theorem readChangesReply : Obligations.ReadChangesReply := by
  intro tag s h
  refine ⟨s.clearReported.marks, s.reportedTerms, rfl, s.clearReported_marked, ?_⟩
  have hmore : allTerms.any (fun t => s.clearReported.marks.get t) = decide (16 < s.markedTerms.length) :=
    s.any_clearReported_marked
  rw [exec_readChanges h, hmore]
  rfl

/-! ### Four READ CHANGES -/

theorem State.chg_iff (s : State) : s.chg = true ↔ s.sectorMark = true ∨ ∃ u, s.marked u = true := by
  have hmarks : s.marks.toList.any id = true ↔ ∃ u, s.marked u = true := by
    rw [List.any_eq_true]
    constructor
    · rintro ⟨b, hb, hset⟩
      obtain ⟨i, hi, rfl⟩ := List.mem_iff_getElem.mp hb
      exact ⟨⟨i, by simpa using hi⟩, hset⟩
    · rintro ⟨u, hu⟩
      exact ⟨s.marked u, by simp [State.marked, Vector.get], hu⟩
  rw [State.chg, Bool.or_eq_true, hmarks]

/-- What a READ CHANGES leaves once its reply has been sent, `rest` waiting. -/
def State.collected (s : State) (rest : List Instr) : State :=
  { s.clearReported with cpRx := .hunting, reqBuf := none, reply := none, pending := rest }

theorem State.collected_markedTerms (s : State) (rest : List Instr) :
    (s.collected rest).markedTerms = s.markedTerms.drop 16 := s.clearReported_markedTerms

/-- The reply of a READ CHANGES leaves, and the buffer is empty again (R158). -/
theorem State.replyLeaves_readChanges (s : State) (tag : Byte) (contents : List Byte) :
    (s.replied .readChanges tag [] .ok contents).replyLeaves = { s with cpRx := .hunting, reqBuf := none, reply := none } :=
  rfl

theorem run_step {s v : State} (h : step s = .next v) (n : Nat) :
    Host.Core.run Sys2Proof.core (n + 1) s = Host.Core.run Sys2Proof.core n v := by
  have hcore : Sys2Proof.core.step s = .next v := h
  simp only [Host.Core.run, hcore]

/-- A READ CHANGES and the end of its reply, the first two commands waiting. -/
theorem run_readChanges {s : State} {tag : Byte} {rest : List Instr} (h : s.reqBuf = none)
    (hp : s.pending = .readChanges tag [] :: .replySent :: rest) (n : Nat) :
    Host.Core.run Sys2Proof.core (n + 2) s = Host.Core.run Sys2Proof.core n (s.collected rest) := by
  have hread : step s = .next (({ s with pending := .replySent :: rest } : State).clearReported.replied .readChanges tag []
      .ok s.changesContents) :=
    (stepRunsFrontCommand _ _ s hp).trans (exec_readChanges (s := { s with pending := .replySent :: rest }) h tag)
  have hsent : step (({ s with pending := .replySent :: rest } : State).clearReported.replied .readChanges tag [] .ok
      s.changesContents) = .next (s.collected rest) :=
    (stepRunsFrontCommand .replySent rest _ rfl).trans (congrArg Host.Outcome.next
      (State.replyLeaves_readChanges { s.clearReported with pending := rest } tag s.changesContents))
  exact (run_step hread (n + 1)).trans (run_step hsent n)

/-- Settles O18: each READ CHANGES takes sixteen marks off the list of marked terminals, which has at most 64. -/
theorem fourReadChangesEmptyTheMap : Obligations.FourReadChangesEmptyTheMap := by
  refine ⟨fun s => ⟨s.chg_iff, rfl⟩, fun s g₁ g₂ g₃ g₄ h _ hp => ?_⟩
  have hrun : Host.Core.run Sys2Proof.core 8 s =
      .next ((((s.collected [.readChanges g₂ [], .replySent, .readChanges g₃ [], .replySent, .readChanges g₄ [],
        .replySent]).collected [.readChanges g₃ [], .replySent, .readChanges g₄ [], .replySent]).collected
        [.readChanges g₄ [], .replySent]).collected []) := by
    rw [run_readChanges h hp, run_readChanges rfl rfl, run_readChanges rfl rfl, run_readChanges rfl rfl]
    rfl
  generalize ht : State.collected _ [] = t at hrun
  have hempty : t.markedTerms = [] := by
    rw [← ht]
    simp only [State.collected_markedTerms, List.drop_drop]
    exact List.drop_eq_nil_of_le s.length_markedTerms_le
  have hmarked : ∀ u, t.marked u = false := fun u => by
    have hnot := mt (t.mem_markedTerms u).mpr (hempty ▸ List.not_mem_nil)
    simpa using hnot
  have hsector : t.sectorMark = false := by rw [← ht]; rfl
  have hchg : t.chg = false := by
    rw [← Bool.not_eq_true, t.chg_iff]
    simp [hmarked, hsector]
  refine ⟨t, hrun, hmarked, hsector, hchg, ?_, ?_⟩
  · rw [State.chgPin, hchg]; rfl
  · rw [← ht]
    exact ⟨rfl, rfl, rfl, rfl⟩

end Sys2Proof.Machine
end

section
/-! The bytes the part sends and the bits of a control-port line (R171, R172, R174, R175, R177). -/

namespace Sys2Proof.Machine

/-- The ten bits of a byte, the data bits from the least significant on (R171). -/
theorem lineBits_eq (b : Byte) :
    lineBits b = [false, b.getLsbD 0, b.getLsbD 1, b.getLsbD 2, b.getLsbD 3, b.getLsbD 4, b.getLsbD 5, b.getLsbD 6,
      b.getLsbD 7, true] := rfl

/-- The line carries a byte whatever level its stop bit has (R171). -/
theorem byteOfLine_lineBits_stop (b : Byte) (stop : Bool) : byteOfLine ((lineBits b).take 9 ++ [stop]) = b := by
  have hlen : ((lineBits b).take 9).length = 9 := rfl
  have hsent : (lineBits b).take 9 ++ [true] = lineBits b := rfl
  calc byteOfLine ((lineBits b).take 9 ++ [stop])
      = byteOfLine ((lineBits b).take 9) := byteOfLine_stop _ stop hlen
    _ = byteOfLine ((lineBits b).take 9 ++ [true]) := (byteOfLine_stop _ true hlen).symm
    _ = b := by rw [hsent, byteOfLine_lineBits]

theorem Reply.line_eq (r : Reply) :
    r.line = r.bytes.flatMap (fun b =>
      [false, b.getLsbD 0, b.getLsbD 1, b.getLsbD 2, b.getLsbD 3, b.getLsbD 4, b.getLsbD 5, b.getLsbD 6, b.getLsbD 7,
       true]) := congrArg r.bytes.flatMap (funext lineBits_eq)

/-- The check value of the CRC of R172 over the digits 1 to 9: the register after each digit. -/
theorem crc16_check : crc16 [0x31, 0x32, 0x33, 0x34, 0x35, 0x36, 0x37, 0x38, 0x39] = 0x29B1#16 := by
  have h1 : crcByte 0xFFFF#16 0x31 = 0xC782#16 := by decide
  have h2 : crcByte 0xC782#16 0x32 = 0x3DBA#16 := by decide
  have h3 : crcByte 0x3DBA#16 0x33 = 0x5BCE#16 := by decide
  have h4 : crcByte 0x5BCE#16 0x34 = 0x5349#16 := by decide
  have h5 : crcByte 0x5349#16 0x35 = 0x4560#16 := by decide
  have h6 : crcByte 0x4560#16 0x36 = 0x2EF4#16 := by decide
  have h7 : crcByte 0x2EF4#16 0x37 = 0x7718#16 := by decide
  have h8 : crcByte 0x7718#16 0x38 = 0xA12B#16 := by decide
  have h9 : crcByte 0xA12B#16 0x39 = 0x29B1#16 := by decide
  simp only [crc16, List.foldl_cons, List.foldl_nil, h1, h2, h3, h4, h5, h6, h7, h8, h9]

/-- Settles O11: the codes, the layout of a frame, the messages, and the line. -/
theorem framesSent : Obligations.FramesSent := by
  exact ⟨rfl, rfl, fun _ => rfl, crc16_check, fun _ _ _ _ _ _ _ => ⟨rfl, rfl, rfl, rfl, rfl⟩,
    fun r => ⟨rfl, r.line_eq⟩, byteOfLine_lineBits_stop⟩

end Sys2Proof.Machine
end

section
/-! STATUS, READ QUEUE, SET SECTOR and READ SECTOR (R160, R162, R163, R168, R176). -/

namespace Sys2Proof.Machine

/-! ### STATUS and READ QUEUE -/

theorem exec_status {s : State} (h : s.reqBuf = none) (tag : Byte) :
    exec (.status tag []) s = .next (s.replied .status tag [] .ok s.statusContents) :=
  exec_replied (k := .status) h rfl rfl

theorem exec_readQueue {s : State} (h : s.reqBuf = none) (tag : Byte) :
    exec (.readQueue tag []) s = .next (s.replied .readQueue tag [] .ok s.queueContents) :=
  exec_replied (k := .readQueue) h rfl rfl

/-- Settles O12: both requests change nothing, and their contents stand byte by byte in R177's order. -/
theorem statusAndQueueReplies : Obligations.StatusAndQueueReplies := by
  refine ⟨rfl, rfl, rfl, fun tag s h => ?_, fun tag s h => ?_⟩
  · rw [exec_status h]
    rfl
  · rw [exec_readQueue h]
    rfl

/-! ### The sector parameters and the ladder -/

/-- A two-byte number is sent as its quotient by 256 and its low byte (R173). -/
theorem bytesOfNat_eq (n : Nat) : bytesOfNat n = [byteOf (n / 256), byteOf n] := by
  have hhigh : (BitVec.ofNat 16 n).extractLsb' 8 8 = byteOf (n / 256) := by
    apply BitVec.eq_of_toNat_eq
    simp [byteOf, BitVec.extractLsb'_toNat, Nat.shiftRight_eq_div_pow]
    omega
  have hlow : (BitVec.ofNat 16 n).extractLsb' 0 8 = byteOf n := by
    apply BitVec.eq_of_toNat_eq
    simp [byteOf, BitVec.extractLsb'_toNat]
  rw [bytesOfNat, bytesOf, hhigh, hlow]

theorem Ladder.thresholds_eq (l : Ladder) : l.thresholds.toList = (List.range 8).map l.at := by
  refine List.ext_getElem (by simp) fun i hi _ => ?_
  simp [Ladder.at, List.getElem?_eq_getElem hi]

/-- A two-byte field needs no clamp to 0..65535. -/
theorem min_num16At (body : List Byte) (i : Nat) : min (num16At body i) 65535 = num16At body i := by
  have hlt : num16At body i < 65536 := (wordAt body i).isLt
  omega

/-- The clamped parameters of a SET SECTOR body (R161, R162). -/
theorem sectorAt_clamped (body : List Byte) :
    (sectorAt body).clamped =
      { alpha := max 1 (min (numAt body 0) 8), allowance := min (numAt body 1) 40
        ratio := max 8 (min (numAt body 2) 32), errLimit := min (numAt body 3) 63
        missLimit := max 2 (min (numAt body 4) 15), trackStep := max 1 (min (numAt body 5) 8)
        deadband := min (numAt body 6) 8, latency := max 1 (min (numAt body 7) 8)
        coarseStep := max 2 (min (numAt body 8) 16)
        fineStep := min (max 1 (min (numAt body 9) 4)) (max 2 (min (numAt body 8) 16))
        limitPolls := max 1 (min (numAt body 10) 15), confirmCount := max 1 (min (numAt body 11) 15)
        retryLimit := min (numAt body 12) 15, backoffBase := max 8 (min (num16At body 13) 4096)
        slowStep := max 1 (min (numAt body 15) 4)
        fastStep := max (max 1 (min (numAt body 16) 16)) (max 1 (min (numAt body 15) 4))
        rampInterval := max 1 (min (numAt body 17) 64), slotsPerFrame := max 1 (min (numAt body 18) 4)
        sweepOn := decide (byteAt body 19 ≠ 0), windowLength := max 16 (min (num16At body 20) 4096)
        quorum := max 2 (min (numAt body 22) 64), holdOffLoad := num16At body 23 } := by
  have hsweep : (byteAt body 19 != 0x00) = decide (byteAt body 19 ≠ 0) := (decide_not ..).symm
  unfold SectorParams.clamped sectorAt
  simp only [clampNat_zero, min_num16At, hsweep]
  simp (disch := decide) only [clampNat_eq]

/-- The 34 bytes of the record and the ladder (R176). -/
theorem sector_contents (p : SectorParams) (l : Ladder) :
    p.contents ++ l.contents =
      [byteOf p.alpha, byteOf p.allowance, byteOf p.ratio, byteOf p.errLimit, byteOf p.missLimit, byteOf p.trackStep,
       byteOf p.deadband, byteOf p.latency, byteOf p.coarseStep, byteOf p.fineStep, byteOf p.limitPolls,
       byteOf p.confirmCount, byteOf p.retryLimit, byteOf (p.backoffBase / 256), byteOf p.backoffBase, byteOf p.slowStep,
       byteOf p.fastStep, byteOf p.rampInterval, byteOf p.slotsPerFrame, flagByte p.sweepOn,
       byteOf (p.windowLength / 256), byteOf p.windowLength, byteOf p.quorum, byteOf (p.holdOffLoad / 256),
       byteOf p.holdOffLoad, byteOf (l.at 0), byteOf (l.at 1), byteOf (l.at 2), byteOf (l.at 3), byteOf (l.at 4),
       byteOf (l.at 5), byteOf (l.at 6), byteOf (l.at 7), byteOf l.hysteresis] := by
  rw [SectorParams.contents, Ladder.contents, l.thresholds_eq]
  simp only [bytesOfNat_eq]
  rfl

/-- Settles O14: the clamps one by one, the reply that reports them, and the order of its bytes. -/
theorem sectorRequests : Obligations.SectorRequests := by
  refine ⟨fun tag body s h hl => ⟨(sectorAt body).clamped, .hunting, ?_, sectorAt_clamped body⟩,
    fun tag s h => ⟨.hunting, ?_⟩, fun p l n hn => ?_⟩
  · exact exec_carried (k := .setSector) h hl rfl
  · exact exec_replied (k := .readSector) h rfl rfl
  · subst hn
    exact sector_contents p l

end Sys2Proof.Machine
end
